-- ==== Sys2Proof/Word.lean ====
section
/-! DEFINITION. The two widths of the machine (00_scope.md R9, R13): an 8-bit value and a 16-bit value.
Byte order, halves and sign extension are in Machine/Bits.lean. -/

namespace Sys2Proof

/-- `u8` of R13. -/
abbrev Byte := BitVec 8

/-- `u16` of R13. -/
abbrev Word := BitVec 16

end Sys2Proof
end

