-- ==== Sys2Proof/Machine/Bits.lean ====
section
/-! DEFINITION. Bit fields, halves, byte order and sign extension (00_scope.md R12, R13, R18). -/

namespace Sys2Proof

/-- `hi(w) = w[15:8]` (R13). -/
def hi (w : Word) : Byte := w.extractLsb' 8 8

/-- `lo(w) = w[7:0]` (R13). -/
def lo (w : Word) : Byte := w.extractLsb' 0 8

/-- `w16(h, l) = h * 256 + l`, `h` in bits 15..8 (R13). -/
def w16 (h l : Byte) : Word := h ++ l

/-- `sext_16(d)` (R13): a displacement or jump offset as a 16-bit value. -/
def sext16 (d : Byte) : Word := d.signExtend 16

/-- `popcount(v)` (R13). -/
def popcount (v : Byte) : Nat :=
  ((List.range 8).map fun i => (v.getLsbD i).toNat).sum

/-- `parity(v)`: true when the number of set bits is even (R18). -/
def parity (v : Byte) : Bool := popcount v % 2 == 0

/-- `v & ~(1 << b)`, the byte `RES b` makes (46_rotate_bit.md R1023). -/
def clearBit (b : BitVec 3) (v : Byte) : Byte := v &&& ~~~(1#8 <<< b.toNat)

/-- `v | (1 << b)`, the byte `SET b` makes (46_rotate_bit.md R1024). -/
def raiseBit (b : BitVec 3) (v : Byte) : Byte := v ||| (1#8 <<< b.toNat)

end Sys2Proof
end

