-- ==== Sys2Proof/Machine/Flags.lean ====
section
/-! DEFINITION. The flags and every flag computation of the spec: the helpers of 40_step_and_flags.md R410 to
R422 and the flag lines of the instruction rules. A helper takes the old F only where a flag keeps its value. -/

namespace Sys2Proof

/-! ## The F register (10_state.md R107) -/

def fS (f : Byte) : Bool := f.getLsbD 7
def fZ (f : Byte) : Bool := f.getLsbD 6
def fY (f : Byte) : Bool := f.getLsbD 5
def fH (f : Byte) : Bool := f.getLsbD 4
def fX (f : Byte) : Bool := f.getLsbD 3
def fPV (f : Byte) : Bool := f.getLsbD 2
def fN (f : Byte) : Bool := f.getLsbD 1
def fC (f : Byte) : Bool := f.getLsbD 0

/-- F from its eight flags, in the order of R107: S, Z, Y, H, X, PV, N, C. -/
def packFlags (s z y h x pv n c : Bool) : Byte :=
  BitVec.ofBool s ++ BitVec.ofBool z ++ BitVec.ofBool y ++ BitVec.ofBool h ++ BitVec.ofBool x ++ BitVec.ofBool pv ++
    BitVec.ofBool n ++ BitVec.ofBool c

/-- Flags whose S, Z, Y and X are `sz53(v)` (R18). -/
def flagsSz53 (v : Byte) (h pv n c : Bool) : Byte :=
  packFlags (v.getLsbD 7) (v == 0) (v.getLsbD 5) h (v.getLsbD 3) pv n c

/-! ## 8-bit arithmetic and logic -/

/-- The accumulator operations (R313). -/
inductive AluOp where
  | add | adc | sub | sbc | and | xor | or | cp
  deriving DecidableEq, Repr

/-- A bit as a number. -/
def bit (c : Bool) : Nat := c.toNat

/-- `add8(a, b, c)` (R410): result and F. -/
def add8 (a b : Byte) (c : Bool) : Byte × Byte :=
  let t := a.toNat + b.toNat + bit c
  let res := BitVec.ofNat 8 t
  (res, flagsSz53 res
    (decide (a.toNat % 16 + b.toNat % 16 + bit c > 0xF))
    (a.getLsbD 7 == b.getLsbD 7 && res.getLsbD 7 != a.getLsbD 7)
    false
    (decide (t > 0xFF)))

/-- `sub8(a, b, c)` (R411): result and F. -/
def sub8 (a b : Byte) (c : Bool) : Byte × Byte :=
  let t : Int := (a.toNat : Int) - b.toNat - bit c
  let res := BitVec.ofInt 8 t
  (res, flagsSz53 res
    (decide (((a.toNat % 16 : Nat) : Int) - ((b.toNat % 16 : Nat) : Int) - bit c < 0))
    (a.getLsbD 7 != b.getLsbD 7 && res.getLsbD 7 == b.getLsbD 7)
    true
    (decide (t < 0)))

/-- `cp8(a, b)` (R412, D20): the flags of the difference, but Y and X from the operand. -/
def cp8 (a b : Byte) : Byte :=
  let f := (sub8 a b false).2
  packFlags (fS f) (fZ f) (b.getLsbD 5) (fH f) (b.getLsbD 3) (fPV f) (fN f) (fC f)

/-- `logic8(AND, a, b)` (R413). -/
def and8 (a b : Byte) : Byte × Byte := (a &&& b, flagsSz53 (a &&& b) true (parity (a &&& b)) false false)

/-- `logic8(XOR, a, b)` (R413). -/
def xor8 (a b : Byte) : Byte × Byte := (a ^^^ b, flagsSz53 (a ^^^ b) false (parity (a ^^^ b)) false false)

/-- `logic8(OR, a, b)` (R413). -/
def or8 (a b : Byte) : Byte × Byte := (a ||| b, flagsSz53 (a ||| b) false (parity (a ||| b)) false false)

/-- An accumulator operation (44_alu8.md R820 to R827): the new A and the new F. -/
def alu8 (op : AluOp) (a src f : Byte) : Byte × Byte :=
  match op with
  | .add => add8 a src false
  | .adc => add8 a src (fC f)
  | .sub => sub8 a src false
  | .sbc => sub8 a src (fC f)
  | .and => and8 a src
  | .xor => xor8 a src
  | .or => or8 a src
  | .cp => (a, cp8 a src)

/-- `inc8(v)` (R414): C is kept. -/
def inc8 (v f : Byte) : Byte × Byte :=
  let res := v + 1
  (res, flagsSz53 res (v.toNat % 16 == 0xF) (v == 0x7F#8) false (fC f))

/-- `dec8(v)` (R415): C is kept. -/
def dec8 (v f : Byte) : Byte × Byte :=
  let res := v - 1
  (res, flagsSz53 res (v.toNat % 16 == 0x0) (v == 0x80#8) true (fC f))

/-! ## DAA (44_alu8.md R840) -/

/-- A row of the documented decision table of R840. -/
structure DaaRow where
  n : Bool
  c : Bool
  highFrom : Nat
  highTo : Nat
  h : Bool
  lowFrom : Nat
  lowTo : Nat
  correction : Nat
  cOut : Bool
  deriving DecidableEq, Repr

/-- The table, in the order of R840; a correction is added when N = 0 and subtracted when N = 1. -/
def daaTable : List DaaRow :=
  [⟨false, false, 0x0, 0x9, false, 0x0, 0x9, 0x00, false⟩,
   ⟨false, false, 0x0, 0x8, false, 0xA, 0xF, 0x06, false⟩,
   ⟨false, false, 0x0, 0x9, true, 0x0, 0x3, 0x06, false⟩,
   ⟨false, false, 0xA, 0xF, false, 0x0, 0x9, 0x60, true⟩,
   ⟨false, false, 0x9, 0xF, false, 0xA, 0xF, 0x66, true⟩,
   ⟨false, false, 0xA, 0xF, true, 0x0, 0x3, 0x66, true⟩,
   ⟨false, true, 0x0, 0x2, false, 0x0, 0x9, 0x60, true⟩,
   ⟨false, true, 0x0, 0x2, false, 0xA, 0xF, 0x66, true⟩,
   ⟨false, true, 0x0, 0x3, true, 0x0, 0x3, 0x66, true⟩,
   ⟨true, false, 0x0, 0x9, false, 0x0, 0x9, 0x00, false⟩,
   ⟨true, false, 0x0, 0x8, true, 0x6, 0xF, 0x06, false⟩,
   ⟨true, true, 0x7, 0xF, false, 0x0, 0x9, 0x60, true⟩,
   ⟨true, true, 0x6, 0xF, true, 0x6, 0xF, 0x66, true⟩]

/-- Whether a row matches A and F. -/
def DaaRow.matches (r : DaaRow) (a f : Byte) : Bool :=
  r.n == fN f && r.c == fC f && r.h == fH f &&
    decide (r.highFrom ≤ a.toNat / 16) && decide (a.toNat / 16 ≤ r.highTo) &&
    decide (r.lowFrom ≤ a.toNat % 16) && decide (a.toNat % 16 ≤ r.lowTo)

/-- Whether some row of the table matches, which DAA_MODE = strict asks for (60_exceptions.md R1410). -/
def daaInTable (a f : Byte) : Bool := daaTable.any fun r => r.matches a f

/-- The total form of `DAA` (R840, D26): the new A and the new F. -/
def daa8 (a f : Byte) : Byte × Byte :=
  let low := a.toNat % 16
  let c' := fC f || decide (a.toNat > 0x99)
  let diff : Nat := (if fH f || decide (low > 9) then 0x06 else 0) + (if c' then 0x60 else 0)
  let h' := if fN f then fH f && decide (low < 6) else decide (low > 9)
  let res : Byte := if fN f then BitVec.ofInt 8 ((a.toNat : Int) - (diff : Int)) else BitVec.ofNat 8 (a.toNat + diff)
  (res, flagsSz53 res h' (parity res) (fN f) c')

/-! ## Other accumulator and flag operations -/

/-- `CPL` (R841). -/
def cplFlags (res f : Byte) : Byte :=
  packFlags (fS f) (fZ f) (res.getLsbD 5) true (res.getLsbD 3) (fPV f) true (fC f)

/-- `CCF` (R843, D19). -/
def ccfFlags (a f : Byte) : Byte :=
  packFlags (fS f) (fZ f) (a.getLsbD 5) (fC f) (a.getLsbD 3) (fPV f) false (!fC f)

/-- `SCF` (R844, D19). -/
def scfFlags (a f : Byte) : Byte :=
  packFlags (fS f) (fZ f) (a.getLsbD 5) false (a.getLsbD 3) (fPV f) false true

/-- `LD A,I` and `LD A,R` (41_load8.md R517, R518, D30): PV is IFF2, C is kept. -/
def ldAIrFlags (v f : Byte) (iff2 : Bool) : Byte := flagsSz53 v false iff2 false (fC f)

/-- `IN r,(C)` and `IN F,(C)` (48_io.md R1203, R1204), and `RLD`, `RRD` of the new A (46_rotate_bit.md R1025,
R1026): PV is parity, H and N are 0, C is kept. -/
def parityFlags (v f : Byte) : Byte := flagsSz53 v false (parity v) false (fC f)

/-! ## 16-bit arithmetic -/

/-- `add16(a, b)` (R416): S, Z and PV are kept. -/
def add16 (a b : Word) (f : Byte) : Word × Byte :=
  let t := a.toNat + b.toNat
  let res := BitVec.ofNat 16 t
  (res, packFlags (fS f) (fZ f) (res.getLsbD 13)
    (decide (a.toNat % 0x1000 + b.toNat % 0x1000 > 0xFFF)) (res.getLsbD 11) (fPV f) false (decide (t > 0xFFFF)))

/-- `adc16(a, b, c)` (R417). -/
def adc16 (a b : Word) (c : Bool) : Word × Byte :=
  let t := a.toNat + b.toNat + bit c
  let res := BitVec.ofNat 16 t
  (res, packFlags (res.getLsbD 15) (res == 0) (res.getLsbD 13)
    (decide (a.toNat % 0x1000 + b.toNat % 0x1000 + bit c > 0xFFF)) (res.getLsbD 11)
    (a.getLsbD 15 == b.getLsbD 15 && res.getLsbD 15 != a.getLsbD 15) false (decide (t > 0xFFFF)))

/-- `sbc16(a, b, c)` (R418). -/
def sbc16 (a b : Word) (c : Bool) : Word × Byte :=
  let t : Int := (a.toNat : Int) - b.toNat - bit c
  let res := BitVec.ofInt 16 t
  (res, packFlags (res.getLsbD 15) (res == 0) (res.getLsbD 13)
    (decide (((a.toNat % 0x1000 : Nat) : Int) - ((b.toNat % 0x1000 : Nat) : Int) - bit c < 0)) (res.getLsbD 11)
    (a.getLsbD 15 != b.getLsbD 15 && res.getLsbD 15 == b.getLsbD 15) true (decide (t < 0)))

/-! ## Rotates and shifts -/

/-- The rotates and shifts (R315). -/
inductive RotOp where
  | rlc | rrc | rl | rr | sla | sra | sll | srl
  deriving DecidableEq, Repr

/-- `rot(op, v)` (R420): the result and the bit shifted out, with the carry-in `cin`. -/
def rot (op : RotOp) (v : Byte) (cin : Bool) : Byte × Bool :=
  match op with
  | .rlc => (v.extractLsb' 0 7 ++ BitVec.ofBool (v.getLsbD 7), v.getLsbD 7)
  | .rrc => (BitVec.ofBool (v.getLsbD 0) ++ v.extractLsb' 1 7, v.getLsbD 0)
  | .rl => (v.extractLsb' 0 7 ++ BitVec.ofBool cin, v.getLsbD 7)
  | .rr => (BitVec.ofBool cin ++ v.extractLsb' 1 7, v.getLsbD 0)
  | .sla => (v.extractLsb' 0 7 ++ 0#1, v.getLsbD 7)
  | .sra => (BitVec.ofBool (v.getLsbD 7) ++ v.extractLsb' 1 7, v.getLsbD 0)
  | .sll => (v.extractLsb' 0 7 ++ 1#1, v.getLsbD 7)
  | .srl => (0#1 ++ v.extractLsb' 1 7, v.getLsbD 0)

/-- `rot_cb(op, v)` (R421): the result and F. -/
def rotCb (op : RotOp) (v f : Byte) : Byte × Byte :=
  let r := rot op v (fC f)
  (r.1, flagsSz53 r.1 false (parity r.1) false r.2)

/-- `rot_a(op)` (R422): the new A and F; S, Z and PV are kept. -/
def rotA (op : RotOp) (a f : Byte) : Byte × Byte :=
  let r := rot op a (fC f)
  (r.1, packFlags (fS f) (fZ f) (r.1.getLsbD 5) false (r.1.getLsbD 3) (fPV f) false r.2)

/-- `bit_flags(b, v, xy)` (46_rotate_bit.md R1019): C is kept. -/
def bitFlags (b : BitVec 3) (v xy f : Byte) : Byte :=
  let t := v.getLsbD b.toNat
  packFlags (b == 7#3 && t) (!t) (xy.getLsbD 5) true (xy.getLsbD 3) (!t) false (fC f)

/-! ## Block instructions (43_block.md) -/

/-- The flags of `LDI` and `LDD` (R701, R702): `n = v + A`; S, Z and C are kept. -/
def blockLoadFlags (v a f : Byte) (bcLeft : Bool) : Byte :=
  let n := v + a
  packFlags (fS f) (fZ f) (n.getLsbD 1) false (n.getLsbD 3) bcLeft false (fC f)

/-- The flags of `CPI` and `CPD` (R705, R706): `n = (A - v) - H`; C is kept. -/
def blockCompareFlags (a v f : Byte) (bcLeft : Bool) : Byte :=
  let res := a - v
  let h := decide (((a.toNat % 16 : Nat) : Int) - ((v.toNat % 16 : Nat) : Int) < 0)
  let n := res - BitVec.ofNat 8 (bit h)
  packFlags (res.getLsbD 7) (res == 0) (n.getLsbD 1) h (n.getLsbD 3) bcLeft true (fC f)

/-- The flags of the block input and output instructions (R709, R710, R713, R714): `v` the byte, `b` the counter B
after its decrement, `adj` the byte added to `v`; all eight flags are written. -/
def blockIoFlags (v b adj : Byte) : Byte :=
  let k := v.toNat + adj.toNat
  flagsSz53 b (decide (k > 0xFF)) (parity (BitVec.ofNat 8 (k % 8) ^^^ b)) (v.getLsbD 7) (decide (k > 0xFF))

end Sys2Proof
end

