-- ==== Sys2Proof/Config.lean ====
section
/-! DEFINITION. The named parameters of 00_scope.md R10 as plain data, and the free values: constants with
no body, which stand for what the spec leaves to be any value. -/

namespace Sys2Proof

/-- R_REFRESH_ORDER (R10, R401): whether R is refreshed after or before an instruction's effect. -/
inductive RefreshOrder where
  | afterExecute
  | beforeExecute
  deriving DecidableEq, Repr

/-- DAA_MODE (R10, R840): the total formula, or a fatal fault on an input outside the table. -/
inductive DaaMode where
  | total
  | strict
  deriving DecidableEq, Repr

/-- RESET_PROFILE (R10, R140). -/
inductive ResetProfile where
  | allZero
  | silicon
  deriving DecidableEq, Repr

/-- A run of addresses `base, base + 1, …, base + size - 1` whose writes the host discards (R202, R203). -/
structure Region where
  base : Nat
  size : Nat
  deriving DecidableEq, Repr

/-- The parameters of R10 that a model takes as arguments. DESIGN CHOICE (safe, log 4): they are plain data held
in State, so that a statement about every state covers every value of them; no step changes them.
WRITABLE is the complement of the listed regions: any set of the 65,536 addresses can be written so. -/
structure Params where
  intDuration  : Nat
  readOnly     : List Region
  refreshOrder : RefreshOrder
  daaMode      : DaaMode
  resetProfile : ResetProfile
  deriving DecidableEq, Repr

/-- One access of the port map, as the host sees it (R210, R211): port number, upper address byte, value. -/
inductive PortEvent where
  | read (port upper value : Byte)
  | write (port upper value : Byte)
  deriving DecidableEq, Repr

/-- FREE VALUE (R10 `PORT_READ`, R209, R210, D22): what a port read answers when no input of the model gives it.
The spec's oracle is a function of the port, the upper byte and the history of accesses. DESIGN CHOICE (log 2). -/
opaque Config.portRead : (port upper : Byte) → (history : List PortEvent) → Byte

/-- FREE VALUE (R1021, D17): the byte whose bits 5 and 3 go to Y and X after `BIT b,(HL)`, one per draw.
DESIGN CHOICE (log 1). -/
opaque Config.bitLatch : (draw : Nat) → Byte

/-- FREE VALUE (R140, R1502): a register the silicon reset profile leaves unspecified, one per reset and register.
DESIGN CHOICE (log 7). -/
opaque Config.siliconRegister : (draw register : Nat) → Word

end Sys2Proof
end

