-- ==== Sys2Proof/Syntax.lean ====
section
/-! DEFINITION. The instructions as syntax: one constructor per row of spec/opcode_table.json, with the row's
fields as arguments in the order in which they stand in the encoding. The bits the table calls ignored are kept
as arguments (log 15), so that no bit of an encoding is dropped. -/

namespace Sys2Proof

/-- An 8-bit register of the main set (30_encoding.md R310, without the `(HL)` code 110). -/
inductive Reg8 where
  | b | c | d | e | h | l | a
  deriving DecidableEq, Repr

/-- A 16-bit pair `rp` (R311). In an instruction of the `DD`/`FD` tables `hl` stands for the index register itself. -/
inductive Pair where
  | bc | de | hl | sp
  deriving DecidableEq, Repr

/-- A 16-bit pair `rp2` of `PUSH` and `POP` (R312). -/
inductive PairAf where
  | bc | de | hl | af
  deriving DecidableEq, Repr

/-- A condition (R314): not zero, zero, no carry, carry, parity odd, parity even, plus, minus. -/
inductive Cond where
  | nz | z | nc | c | po | pe | p | m
  deriving DecidableEq, Repr

/-- The index register that a `DD` (IX) or `FD` (IY) byte selects (R301, R305). -/
inductive Idx where
  | ix | iy
  deriving DecidableEq, Repr

/-- A half of an index register (R301): 0 is the high half, 1 the low half. -/
inductive Half where
  | high | low
  deriving DecidableEq, Repr

/-- The instructions. -/
inductive Instr where
  /-- `NOP` (R1301): 00000000. -/
  | nop
  /-- `LD p,nn` (R601): 00pp0001 wwwwwwww wwwwwwww. -/
  | ldPairImm (p : Pair) (nn : Word)
  /-- `LD (BC),A` (R509): 00000010. -/
  | ldMemBcA
  /-- `LD (DE),A` (R510): 00010010. -/
  | ldMemDeA
  /-- `LD (nn),HL` (R603): 00100010 wwwwwwww wwwwwwww. -/
  | ldMemNnHl (nn : Word)
  /-- `LD (nn),A` (R511): 00110010 wwwwwwww wwwwwwww. -/
  | ldMemNnA (nn : Word)
  /-- `INC p` (R905): 00pp0011. -/
  | incPair (p : Pair)
  /-- `INC r` (R830): 00rrr100. -/
  | incReg (r : Reg8)
  /-- `INC (HL)` (R830): 00110100. -/
  | incMemHl
  /-- `DEC r` (R831): 00rrr101. -/
  | decReg (r : Reg8)
  /-- `DEC (HL)` (R831): 00110101. -/
  | decMemHl
  /-- `LD r,n` (R502): 00rrr110 nnnnnnnn. -/
  | ldRegImm (r : Reg8) (n : Byte)
  /-- `LD (HL),n` (R505): 00110110 nnnnnnnn. -/
  | ldMemHlImm (n : Byte)
  /-- `RLCA` (R1001): 00000111. -/
  | rlca
  /-- `RRCA` (R1002): 00001111. -/
  | rrca
  /-- `RLA` (R1003): 00010111. -/
  | rla
  /-- `RRA` (R1004): 00011111. -/
  | rra
  /-- `DAA` (R840): 00100111. -/
  | daa
  /-- `CPL` (R841): 00101111. -/
  | cpl
  /-- `SCF` (R844): 00110111. -/
  | scf
  /-- `CCF` (R843): 00111111. -/
  | ccf
  /-- `EX AF,AF'` (R620): 00001000. -/
  | exAfAf
  /-- `DJNZ e` (R1105): 00010000 eeeeeeee. -/
  | djnz (e : Byte)
  /-- `JR e` (R1103): 00011000 eeeeeeee. -/
  | jr (e : Byte)
  /-- `JR c,e` (R1104): 001cc000 eeeeeeee. -/
  | jrCond (cc : Cond) (e : Byte)
  /-- `ADD HL,p` (R901): 00pp1001. -/
  | addHlPair (p : Pair)
  /-- `LD A,(BC)` (R506): 00001010. -/
  | ldAMemBc
  /-- `LD A,(DE)` (R507): 00011010. -/
  | ldAMemDe
  /-- `LD HL,(nn)` (R602): 00101010 wwwwwwww wwwwwwww. -/
  | ldHlMemNn (nn : Word)
  /-- `LD A,(nn)` (R508): 00111010 wwwwwwww wwwwwwww. -/
  | ldAMemNn (nn : Word)
  /-- `DEC p` (R906): 00pp1011. -/
  | decPair (p : Pair)
  /-- `LD r,s` (R501): 01rrrsss. -/
  | ldRegReg (r : Reg8) (r2 : Reg8)
  /-- `LD r,(HL)` (R503): 01rrr110. -/
  | ldRegMemHl (r : Reg8)
  /-- `LD (HL),s` (R504): 01110sss. -/
  | ldMemHlReg (r : Reg8)
  /-- `HALT` (R1302): 01110110. -/
  | halt
  /-- `ADD A,s` (R820): 10000sss. -/
  | addAReg (r : Reg8)
  /-- `ADD A,(HL)` (R820): 10000110. -/
  | addAMemHl
  /-- `ADD A,n` (R820): 11000110 nnnnnnnn. -/
  | addAImm (n : Byte)
  /-- `ADD A,(IX+d)` (R820): 11i11101 10000110 dddddddd. -/
  | addAMemIdx (x : Idx) (d : Byte)
  /-- `ADD A,IXh` (R820): 11i11101 1000010h. -/
  | addAHalf (x : Idx) (h : Half)
  /-- `ADC A,s` (R821): 10001sss. -/
  | adcAReg (r : Reg8)
  /-- `ADC A,(HL)` (R821): 10001110. -/
  | adcAMemHl
  /-- `ADC A,n` (R821): 11001110 nnnnnnnn. -/
  | adcAImm (n : Byte)
  /-- `ADC A,(IX+d)` (R821): 11i11101 10001110 dddddddd. -/
  | adcAMemIdx (x : Idx) (d : Byte)
  /-- `ADC A,IXh` (R821): 11i11101 1000110h. -/
  | adcAHalf (x : Idx) (h : Half)
  /-- `SUB s` (R822): 10010sss. -/
  | subAReg (r : Reg8)
  /-- `SUB (HL)` (R822): 10010110. -/
  | subAMemHl
  /-- `SUB n` (R822): 11010110 nnnnnnnn. -/
  | subAImm (n : Byte)
  /-- `SUB (IX+d)` (R822): 11i11101 10010110 dddddddd. -/
  | subAMemIdx (x : Idx) (d : Byte)
  /-- `SUB IXh` (R822): 11i11101 1001010h. -/
  | subAHalf (x : Idx) (h : Half)
  /-- `SBC A,s` (R823): 10011sss. -/
  | sbcAReg (r : Reg8)
  /-- `SBC A,(HL)` (R823): 10011110. -/
  | sbcAMemHl
  /-- `SBC A,n` (R823): 11011110 nnnnnnnn. -/
  | sbcAImm (n : Byte)
  /-- `SBC A,(IX+d)` (R823): 11i11101 10011110 dddddddd. -/
  | sbcAMemIdx (x : Idx) (d : Byte)
  /-- `SBC A,IXh` (R823): 11i11101 1001110h. -/
  | sbcAHalf (x : Idx) (h : Half)
  /-- `AND s` (R824): 10100sss. -/
  | andAReg (r : Reg8)
  /-- `AND (HL)` (R824): 10100110. -/
  | andAMemHl
  /-- `AND n` (R824): 11100110 nnnnnnnn. -/
  | andAImm (n : Byte)
  /-- `AND (IX+d)` (R824): 11i11101 10100110 dddddddd. -/
  | andAMemIdx (x : Idx) (d : Byte)
  /-- `AND IXh` (R824): 11i11101 1010010h. -/
  | andAHalf (x : Idx) (h : Half)
  /-- `XOR s` (R825): 10101sss. -/
  | xorAReg (r : Reg8)
  /-- `XOR (HL)` (R825): 10101110. -/
  | xorAMemHl
  /-- `XOR n` (R825): 11101110 nnnnnnnn. -/
  | xorAImm (n : Byte)
  /-- `XOR (IX+d)` (R825): 11i11101 10101110 dddddddd. -/
  | xorAMemIdx (x : Idx) (d : Byte)
  /-- `XOR IXh` (R825): 11i11101 1010110h. -/
  | xorAHalf (x : Idx) (h : Half)
  /-- `OR s` (R826): 10110sss. -/
  | orAReg (r : Reg8)
  /-- `OR (HL)` (R826): 10110110. -/
  | orAMemHl
  /-- `OR n` (R826): 11110110 nnnnnnnn. -/
  | orAImm (n : Byte)
  /-- `OR (IX+d)` (R826): 11i11101 10110110 dddddddd. -/
  | orAMemIdx (x : Idx) (d : Byte)
  /-- `OR IXh` (R826): 11i11101 1011010h. -/
  | orAHalf (x : Idx) (h : Half)
  /-- `CP s` (R827): 10111sss. -/
  | cpAReg (r : Reg8)
  /-- `CP (HL)` (R827): 10111110. -/
  | cpAMemHl
  /-- `CP n` (R827): 11111110 nnnnnnnn. -/
  | cpAImm (n : Byte)
  /-- `CP (IX+d)` (R827): 11i11101 10111110 dddddddd. -/
  | cpAMemIdx (x : Idx) (d : Byte)
  /-- `CP IXh` (R827): 11i11101 1011110h. -/
  | cpAHalf (x : Idx) (h : Half)
  /-- `RET c` (R1111): 11ccc000. -/
  | retCond (cc : Cond)
  /-- `POP q` (R612): 11qq0001. -/
  | popPair (q : PairAf)
  /-- `JP c,nn` (R1102): 11ccc010 wwwwwwww wwwwwwww. -/
  | jpCond (cc : Cond) (nn : Word)
  /-- `JP nn` (R1101): 11000011 wwwwwwww wwwwwwww. -/
  | jp (nn : Word)
  /-- `OUT (n),A` (R1202): 11010011 nnnnnnnn. -/
  | outImmA (n : Byte)
  /-- `IN A,(n)` (R1201): 11011011 nnnnnnnn. -/
  | inAImm (n : Byte)
  /-- `EX (SP),HL` (R623): 11100011. -/
  | exMemSpHl
  /-- `EX DE,HL` (R622): 11101011. -/
  | exDeHl
  /-- `DI` (R1303): 11110011. -/
  | di
  /-- `EI` (R1304): 11111011. -/
  | ei
  /-- `CALL c,nn` (R1109): 11ccc100 wwwwwwww wwwwwwww. -/
  | callCond (cc : Cond) (nn : Word)
  /-- `PUSH q` (R611): 11qq0101. -/
  | pushPair (q : PairAf)
  /-- `CALL nn` (R1108): 11001101 wwwwwwww wwwwwwww. -/
  | call (nn : Word)
  /-- `RST t` (R1120): 11ttt111. -/
  | rst (t : BitVec 3)
  /-- `RET` (R1110): 11001001. -/
  | ret
  /-- `EXX` (R621): 11011001. -/
  | exx
  /-- `JP (HL)` (R1106): 11101001. -/
  | jpHl
  /-- `LD SP,HL` (R606): 11111001. -/
  | ldSpHl
  /-- `RLC r` (R1011): 11001011 00000rrr. -/
  | rlcReg (r : Reg8)
  /-- `RLC (HL)` (R1011): 11001011 00000110. -/
  | rlcMemHl
  /-- `RLC (IX+d)` (R1011): 11i11101 11001011 dddddddd 00000110. -/
  | rlcMemIdx (x : Idx) (d : Byte)
  /-- `LD r,RLC (IX+d)` (R1011): 11i11101 11001011 dddddddd 00000rrr. -/
  | rlcMemIdxCopy (x : Idx) (d : Byte) (r : Reg8)
  /-- `RRC r` (R1012): 11001011 00001rrr. -/
  | rrcReg (r : Reg8)
  /-- `RRC (HL)` (R1012): 11001011 00001110. -/
  | rrcMemHl
  /-- `RRC (IX+d)` (R1012): 11i11101 11001011 dddddddd 00001110. -/
  | rrcMemIdx (x : Idx) (d : Byte)
  /-- `LD r,RRC (IX+d)` (R1012): 11i11101 11001011 dddddddd 00001rrr. -/
  | rrcMemIdxCopy (x : Idx) (d : Byte) (r : Reg8)
  /-- `RL r` (R1013): 11001011 00010rrr. -/
  | rlReg (r : Reg8)
  /-- `RL (HL)` (R1013): 11001011 00010110. -/
  | rlMemHl
  /-- `RL (IX+d)` (R1013): 11i11101 11001011 dddddddd 00010110. -/
  | rlMemIdx (x : Idx) (d : Byte)
  /-- `LD r,RL (IX+d)` (R1013): 11i11101 11001011 dddddddd 00010rrr. -/
  | rlMemIdxCopy (x : Idx) (d : Byte) (r : Reg8)
  /-- `RR r` (R1014): 11001011 00011rrr. -/
  | rrReg (r : Reg8)
  /-- `RR (HL)` (R1014): 11001011 00011110. -/
  | rrMemHl
  /-- `RR (IX+d)` (R1014): 11i11101 11001011 dddddddd 00011110. -/
  | rrMemIdx (x : Idx) (d : Byte)
  /-- `LD r,RR (IX+d)` (R1014): 11i11101 11001011 dddddddd 00011rrr. -/
  | rrMemIdxCopy (x : Idx) (d : Byte) (r : Reg8)
  /-- `SLA r` (R1015): 11001011 00100rrr. -/
  | slaReg (r : Reg8)
  /-- `SLA (HL)` (R1015): 11001011 00100110. -/
  | slaMemHl
  /-- `SLA (IX+d)` (R1015): 11i11101 11001011 dddddddd 00100110. -/
  | slaMemIdx (x : Idx) (d : Byte)
  /-- `LD r,SLA (IX+d)` (R1015): 11i11101 11001011 dddddddd 00100rrr. -/
  | slaMemIdxCopy (x : Idx) (d : Byte) (r : Reg8)
  /-- `SRA r` (R1016): 11001011 00101rrr. -/
  | sraReg (r : Reg8)
  /-- `SRA (HL)` (R1016): 11001011 00101110. -/
  | sraMemHl
  /-- `SRA (IX+d)` (R1016): 11i11101 11001011 dddddddd 00101110. -/
  | sraMemIdx (x : Idx) (d : Byte)
  /-- `LD r,SRA (IX+d)` (R1016): 11i11101 11001011 dddddddd 00101rrr. -/
  | sraMemIdxCopy (x : Idx) (d : Byte) (r : Reg8)
  /-- `SLL r` (R1017): 11001011 00110rrr. -/
  | sllReg (r : Reg8)
  /-- `SLL (HL)` (R1017): 11001011 00110110. -/
  | sllMemHl
  /-- `SLL (IX+d)` (R1017): 11i11101 11001011 dddddddd 00110110. -/
  | sllMemIdx (x : Idx) (d : Byte)
  /-- `LD r,SLL (IX+d)` (R1017): 11i11101 11001011 dddddddd 00110rrr. -/
  | sllMemIdxCopy (x : Idx) (d : Byte) (r : Reg8)
  /-- `SRL r` (R1018): 11001011 00111rrr. -/
  | srlReg (r : Reg8)
  /-- `SRL (HL)` (R1018): 11001011 00111110. -/
  | srlMemHl
  /-- `SRL (IX+d)` (R1018): 11i11101 11001011 dddddddd 00111110. -/
  | srlMemIdx (x : Idx) (d : Byte)
  /-- `LD r,SRL (IX+d)` (R1018): 11i11101 11001011 dddddddd 00111rrr. -/
  | srlMemIdxCopy (x : Idx) (d : Byte) (r : Reg8)
  /-- `BIT b,r` (R1020): 11001011 01bbbrrr. -/
  | bitReg (b : BitVec 3) (r : Reg8)
  /-- `BIT b,(HL)` (R1021): 11001011 01bbb110. -/
  | bitMemHl (b : BitVec 3)
  /-- `BIT b,(IX+d)` (R1022): 11i11101 11001011 dddddddd 01bbbzzz. -/
  | bitMemIdx (x : Idx) (d : Byte) (b : BitVec 3) (z : BitVec 3)
  /-- `RES b,r` (R1023): 11001011 10bbbrrr. -/
  | resReg (b : BitVec 3) (r : Reg8)
  /-- `RES b,(HL)` (R1023): 11001011 10bbb110. -/
  | resMemHl (b : BitVec 3)
  /-- `RES b,(IX+d)` (R1023): 11i11101 11001011 dddddddd 10bbb110. -/
  | resMemIdx (x : Idx) (d : Byte) (b : BitVec 3)
  /-- `LD r,RES b,(IX+d)` (R1023): 11i11101 11001011 dddddddd 10bbbrrr. -/
  | resMemIdxCopy (x : Idx) (d : Byte) (b : BitVec 3) (r : Reg8)
  /-- `SET b,r` (R1024): 11001011 11bbbrrr. -/
  | setReg (b : BitVec 3) (r : Reg8)
  /-- `SET b,(HL)` (R1024): 11001011 11bbb110. -/
  | setMemHl (b : BitVec 3)
  /-- `SET b,(IX+d)` (R1024): 11i11101 11001011 dddddddd 11bbb110. -/
  | setMemIdx (x : Idx) (d : Byte) (b : BitVec 3)
  /-- `LD r,SET b,(IX+d)` (R1024): 11i11101 11001011 dddddddd 11bbbrrr. -/
  | setMemIdxCopy (x : Idx) (d : Byte) (b : BitVec 3) (r : Reg8)
  /-- `IN r,(C)` (R1203): 11101101 01rrr000. -/
  | inRegC (r : Reg8)
  /-- `IN F,(C)` (R1204): 11101101 01110000. -/
  | inFC
  /-- `OUT (C),r` (R1205): 11101101 01rrr001. -/
  | outCReg (r : Reg8)
  /-- `OUT (C),0` (R1206): 11101101 01110001. -/
  | outCZero
  /-- `SBC HL,p` (R903): 11101101 01pp0010. -/
  | sbcHlPair (p : Pair)
  /-- `ADC HL,p` (R902): 11101101 01pp1010. -/
  | adcHlPair (p : Pair)
  /-- `LD (nn),p` (R605): 11101101 01pp0011 wwwwwwww wwwwwwww. -/
  | ldMemNnPair (p : Pair) (nn : Word)
  /-- `LD p,(nn)` (R604): 11101101 01pp1011 wwwwwwww wwwwwwww. -/
  | ldPairMemNn (p : Pair) (nn : Word)
  /-- `NEG` (R842): 11101101 01xxx100. -/
  | neg (z : BitVec 3)
  /-- `RETN` (R1112): 11101101 01xxx101. -/
  | retn (z : BitVec 3)
  /-- `RETI` (R1113): 11101101 01001101. -/
  | reti
  /-- `IM 0` (R1305): 11101101 01m0m110. -/
  | im0 (z : BitVec 1) (z2 : BitVec 1)
  /-- `IM 1` (R1306): 11101101 01m10110. -/
  | im1 (z : BitVec 1)
  /-- `IM 2` (R1307): 11101101 01m11110. -/
  | im2 (z : BitVec 1)
  /-- `LD I,A` (R519): 11101101 01000111. -/
  | ldIA
  /-- `LD R,A` (R520): 11101101 01001111. -/
  | ldRA
  /-- `LD A,I` (R517): 11101101 01010111. -/
  | ldAI
  /-- `LD A,R` (R518): 11101101 01011111. -/
  | ldAR
  /-- `RRD` (R1026): 11101101 01100111. -/
  | rrd
  /-- `RLD` (R1025): 11101101 01101111. -/
  | rld
  /-- `LDI` (R701): 11101101 10100000. -/
  | ldi
  /-- `CPI` (R705): 11101101 10100001. -/
  | cpi
  /-- `INI` (R709): 11101101 10100010. -/
  | ini
  /-- `OUTI` (R713): 11101101 10100011. -/
  | outi
  /-- `LDD` (R702): 11101101 10101000. -/
  | ldd
  /-- `CPD` (R706): 11101101 10101001. -/
  | cpd
  /-- `IND` (R710): 11101101 10101010. -/
  | ind
  /-- `OUTD` (R714): 11101101 10101011. -/
  | outd
  /-- `LDIR` (R703): 11101101 10110000. -/
  | ldir
  /-- `CPIR` (R707): 11101101 10110001. -/
  | cpir
  /-- `INIR` (R711): 11101101 10110010. -/
  | inir
  /-- `OTIR` (R715): 11101101 10110011. -/
  | otir
  /-- `LDDR` (R704): 11101101 10111000. -/
  | lddr
  /-- `CPDR` (R708): 11101101 10111001. -/
  | cpdr
  /-- `INDR` (R712): 11101101 10111010. -/
  | indr
  /-- `OTDR` (R716): 11101101 10111011. -/
  | otdr
  /-- `NOP (ED undefined)` (R1309): 11101101 00xxxxxx. -/
  | nopEdLow (z : BitVec 6)
  /-- `NOP (ED undefined)` (R1309): 11101101 11xxxxxx. -/
  | nopEdHigh (z : BitVec 6)
  /-- `NOP (ED undefined)` (R1309): 11101101 100xxxxx. -/
  | nopEdMid (z : BitVec 5)
  /-- `NOP (ED undefined)` (R1309): 11101101 101xx1xx. -/
  | nopEdBlock (z : BitVec 2) (z2 : BitVec 2)
  /-- `NOP (ED undefined)` (R1309): 11101101 0111x111. -/
  | nopEdSeven (z : BitVec 1)
  /-- `ADD IX,p` (R904): 11i11101 00pp1001. -/
  | addIdxPair (x : Idx) (p : Pair)
  /-- `LD IX,nn` (R607): 11i11101 00100001 wwwwwwww wwwwwwww. -/
  | ldIdxImm (x : Idx) (nn : Word)
  /-- `LD (nn),IX` (R609): 11i11101 00100010 wwwwwwww wwwwwwww. -/
  | ldMemNnIdx (x : Idx) (nn : Word)
  /-- `INC IX` (R907): 11i11101 00100011. -/
  | incIdx (x : Idx)
  /-- `INC IXh` (R830): 11i11101 0010h100. -/
  | incHalf (x : Idx) (h : Half)
  /-- `DEC IXh` (R831): 11i11101 0010h101. -/
  | decHalf (x : Idx) (h : Half)
  /-- `LD IXh,n` (R516): 11i11101 0010h110 nnnnnnnn. -/
  | ldHalfImm (x : Idx) (h : Half) (n : Byte)
  /-- `LD IX,(nn)` (R608): 11i11101 00101010 wwwwwwww wwwwwwww. -/
  | ldIdxMemNn (x : Idx) (nn : Word)
  /-- `DEC IX` (R908): 11i11101 00101011. -/
  | decIdx (x : Idx)
  /-- `INC (IX+d)` (R830): 11i11101 00110100 dddddddd. -/
  | incMemIdx (x : Idx) (d : Byte)
  /-- `DEC (IX+d)` (R831): 11i11101 00110101 dddddddd. -/
  | decMemIdx (x : Idx) (d : Byte)
  /-- `LD (IX+d),n` (R514): 11i11101 00110110 dddddddd nnnnnnnn. -/
  | ldMemIdxImm (x : Idx) (d : Byte) (n : Byte)
  /-- `LD r,IXh` (R515): 11i11101 01rrr10h. -/
  | ldRegHalf (x : Idx) (r : Reg8) (h : Half)
  /-- `LD IXh,s` (R515): 11i11101 0110hsss. -/
  | ldHalfReg (x : Idx) (h : Half) (r : Reg8)
  /-- `LD IXh,IXk` (R515): 11i11101 0110h10k. -/
  | ldHalfHalf (x : Idx) (h : Half) (k : Half)
  /-- `LD r,(IX+d)` (R512): 11i11101 01rrr110 dddddddd. -/
  | ldRegMemIdx (x : Idx) (r : Reg8) (d : Byte)
  /-- `LD (IX+d),s` (R513): 11i11101 01110sss dddddddd. -/
  | ldMemIdxReg (x : Idx) (r : Reg8) (d : Byte)
  /-- `POP IX` (R614): 11i11101 11100001. -/
  | popIdx (x : Idx)
  /-- `EX (SP),IX` (R624): 11i11101 11100011. -/
  | exMemSpIdx (x : Idx)
  /-- `PUSH IX` (R613): 11i11101 11100101. -/
  | pushIdx (x : Idx)
  /-- `JP (IX)` (R1107): 11i11101 11101001. -/
  | jpIdx (x : Idx)
  /-- `LD SP,IX` (R610): 11i11101 11111001. -/
  | ldSpIdx (x : Idx)
  /-- `NOP (prefix DD/FD)` (R1308): 11i11101. -/
  | nopPrefix (x : Idx)
  deriving DecidableEq, Repr

end Sys2Proof
end

