-- ==== Sys2Proof/Machine/State.lean ====
section
/-! DEFINITION. The state of the machine as plain data (10_state.md), its reset value, and the reasons a step
could stop. INVENTORY.md lists every field with its rule. -/

namespace Sys2Proof.Machine

/-- The 16-bit registers of R100 by name; `shAf` … `shHl` are the shadow set, `ir` is the pair of I and R. -/
inductive Reg16 where
  | af | bc | de | hl
  | shAf | shBc | shDe | shHl
  | ix | iy | sp | pc | ir
  deriving DecidableEq, Repr

/-- The register file (R100): each register is one 16-bit value, whose halves are views of it (R101). -/
structure Regs where
  af : Word
  bc : Word
  de : Word
  hl : Word
  shAf : Word
  shBc : Word
  shDe : Word
  shHl : Word
  ix : Word
  iy : Word
  sp : Word
  pc : Word
  ir : Word
  deriving DecidableEq, Repr

/-- The kinds of fatal fault (60_exceptions.md R1410). -/
inductive FatalKind where
  /-- An interrupt is dispatched with IM = 3. -/
  | badInterruptMode
  /-- `DAA` under DAA_MODE = strict, on an input no row of the table matches. -/
  | daaOutOfTable
  deriving DecidableEq, Repr

/-- The completion states (40_step_and_flags.md R402): `again` is the spec's Repeat, `againSlow` its RepeatSlow. -/
inductive Completion where
  | next
  | nextSlow
  | again
  | againSlow
  deriving DecidableEq, Repr

/-- The numbers of a descriptor (R400): length, T, Tslow where the instruction has a slow path, ΔR. Its fifth part,
the effect, is the instruction's meaning. -/
structure Desc where
  length : Nat
  t : Nat
  tSlow : Option Nat
  rDelta : Nat
  deriving DecidableEq, Repr

/-- What the result of a step shows a harness or a debugger beside the state: the descriptor of the instruction that
ran and the state it completed in (R402, 60_exceptions.md R1424). -/
structure StepReport where
  desc : Desc
  completion : Completion
  deriving DecidableEq, Repr

/-- The whole state. -/
structure State where
  /-- The register file (R100). -/
  regs : Regs
  /-- IFF1, which gates acceptance (R112). -/
  iff1 : Bool
  /-- IFF2 (R112). -/
  iff2 : Bool
  /-- The interrupt mode; 3 is illegal and only a host write makes it (R113, R11). -/
  im : BitVec 2
  /-- int_pending (R114). -/
  intPending : Bool
  /-- int_deadline, a clock value (R114, log 8). -/
  intDeadline : Nat
  /-- int_inhibit, the EI-delay bit (R115). -/
  intInhibit : Bool
  /-- The halted sub-state (R116). -/
  halted : Bool
  /-- The T-state clock (R117, log 8). -/
  clock : Nat
  /-- The fatal marker (R118). -/
  fatal : Option FatalKind
  /-- Memory (20_memory.md R202): address and byte, addresses strictly rising, no entry 0x00; an address with no
  entry reads 0x00 (log 5). -/
  mem : List Host.Cell
  /-- The parameters of R10 (log 4). -/
  params : Params
  /-- The model's own: the step inputs IRQ to come (R10, R1401; log 3). -/
  irqQueue : List Bool
  /-- The model's own: the answers to the port reads to come (R209, R210; log 2). -/
  portIn : List Byte
  /-- The model's own: the port accesses made, newest first (R10, R211; log 2). -/
  portLog : List PortEvent
  /-- The model's own: how many free values have been drawn (R1021, R1502; log 1). -/
  draws : Nat
  /-- The model's own: what the result of the last step shows beside the state, none where no instruction completed.
  Each step that runs replaces it and none reads it (R402, R1424; log 17). -/
  report : Option StepReport
  deriving DecidableEq, Repr

/-- The faults a step can end in. There are none: the core raises no synchronous exception (R1400), and a fatal
fault is state (`fatal`), after which the machine steps without change (R409, R1410; log 9). -/
inductive Fault where
  deriving DecidableEq, Repr

/-- The refusals. -/
inductive Refusal where
  /-- Raised by an arm of `exec` that has no meaning yet; no arm of this model is one. Safe: the machine stops. -/
  | notModelled (mnemonic : String)
  deriving DecidableEq, Repr

/-- What a meaning answers. -/
abbrev Result := Host.Outcome State Fault Refusal

/-- Every register 0 (R140, RESET_PROFILE = all_zero). -/
def Regs.zero : Regs :=
  { af := 0, bc := 0, de := 0, hl := 0, shAf := 0, shBc := 0, shDe := 0, shHl := 0,
    ix := 0, iy := 0, sp := 0, pc := 0, ir := 0 }

/-- The parameter values of `State.reset`: the three that the spec decides (D3, D15, D26), and for the two it leaves
open the values of the conventions of 95_test_vectors.md, every address writable and a window of 32 T-states.
DESIGN CHOICE (unsafe for a claim about one run from reset, log 4). -/
def Params.initial : Params :=
  { intDuration := 32, readOnly := [], refreshOrder := .afterExecute, daaMode := .total, resetProfile := .allZero }

/-- The machine right after reset (10_state.md R140, 70_reset_and_hazards.md R1500, RESET_PROFILE = all_zero).
Memory and the host's side are not the core's to reset: nothing is listed (logs 2, 3, 4, 5). No step has run, so there
is no report (log 17). -/
def State.reset : State :=
  { regs := Regs.zero
    iff1 := false
    iff2 := false
    im := 0
    intPending := false
    intDeadline := 0
    intInhibit := false
    halted := false
    clock := 0
    fatal := none
    mem := []
    params := Params.initial
    irqQueue := []
    portIn := []
    portLog := []
    draws := 0
    report := none }

end Sys2Proof.Machine
end

