-- ==== Sys2Proof/Machine/Ops.lean ====
section
/-! DEFINITION. The named operations over registers, memory, ports and the stack, taking an interrupt and the
return from one, and the sequencer that every instruction runs in (40_step_and_flags.md R401). -/

namespace Sys2Proof.Machine

/-! ## Registers -/

/-- Read a register of the file. -/
def Regs.get (g : Regs) (r : Reg16) : Word :=
  match r with
  | .af => g.af | .bc => g.bc | .de => g.de | .hl => g.hl
  | .shAf => g.shAf | .shBc => g.shBc | .shDe => g.shDe | .shHl => g.shHl
  | .ix => g.ix | .iy => g.iy | .sp => g.sp | .pc => g.pc | .ir => g.ir

/-- Write a register of the file. -/
def Regs.set (g : Regs) (r : Reg16) (v : Word) : Regs :=
  match r with
  | .af => { g with af := v } | .bc => { g with bc := v } | .de => { g with de := v } | .hl => { g with hl := v }
  | .shAf => { g with shAf := v } | .shBc => { g with shBc := v }
  | .shDe => { g with shDe := v } | .shHl => { g with shHl := v }
  | .ix => { g with ix := v } | .iy => { g with iy := v }
  | .sp => { g with sp := v } | .pc => { g with pc := v } | .ir => { g with ir := v }

namespace State

/-- Read a 16-bit register. -/
def get (s : State) (r : Reg16) : Word := s.regs.get r

/-- Write a 16-bit register, both halves (R101). -/
def set (s : State) (r : Reg16) (v : Word) : State := { s with regs := s.regs.set r v }

/-- Write the high half of a register: `P <- w16(v, lo(P))` (R101). -/
def setHi (s : State) (r : Reg16) (v : Byte) : State := s.set r (w16 v (lo (s.get r)))

/-- Write the low half of a register: `P <- w16(hi(P), v)` (R101). -/
def setLo (s : State) (r : Reg16) (v : Byte) : State := s.set r (w16 (hi (s.get r)) v)

/-- A, the high half of AF. -/
def a (s : State) : Byte := hi (s.get .af)

/-- F, the low half of AF. -/
def f (s : State) : Byte := lo (s.get .af)

/-- I, the high half of IR. -/
def i (s : State) : Byte := hi (s.get .ir)

/-- R, the low half of IR. -/
def r (s : State) : Byte := lo (s.get .ir)

def setA (s : State) (v : Byte) : State := s.setHi .af v

def setF (s : State) (v : Byte) : State := s.setLo .af v

/-- Write A and F together from a helper's answer. -/
def setAF (s : State) (v : Byte × Byte) : State := s.set .af (w16 v.1 v.2)

end State

/-! ## Memory (20_memory.md) -/

/-- What an address with no entry reads as (log 5). -/
def Memory.unlisted : Byte := 0

/-- The byte at an address: its entry, or `Memory.unlisted`. -/
def Memory.read (m : List Host.Cell) (a : Nat) : Byte :=
  match m with
  | [] => Memory.unlisted
  | (k, v) :: m => if k = a then v else Memory.read m a

/-- Every entry of an address taken out. -/
def Memory.erase (m : List Host.Cell) (a : Nat) : List Host.Cell :=
  match m with
  | [] => []
  | (k, v) :: m => if k = a then Memory.erase m a else (k, v) :: Memory.erase m a

/-- An entry put in before the first entry of a higher address. -/
def Memory.insert (m : List Host.Cell) (a : Nat) (v : Byte) : List Host.Cell :=
  match m with
  | [] => [(a, v)]
  | (k, x) :: m => if a < k then (a, v) :: (k, x) :: m else (k, x) :: Memory.insert m a v

/-- One byte stored: the canonical form lists no entry equal to what an unlisted address reads as. -/
def Memory.write (m : List Host.Cell) (a : Nat) (v : Byte) : List Host.Cell :=
  if v = Memory.unlisted then Memory.erase m a else Memory.insert (Memory.erase m a) a v

/-- Canonical from an address on: addresses rise from `from_`, stay below 2^16, and no entry reads as unlisted. -/
def Memory.wfFrom (from_ : Nat) (m : List Host.Cell) : Bool :=
  match m with
  | [] => true
  | (k, v) :: m => decide (from_ ≤ k) && decide (k < 65536) && v != Memory.unlisted && Memory.wfFrom (k + 1) m

/-- The canonical form of memory. -/
def Memory.wf (m : List Host.Cell) : Bool := Memory.wfFrom 0 m

/-- `WRITABLE` (R202): no listed region holds the address. -/
def Params.writable (p : Params) (a : Nat) : Bool :=
  p.readOnly.all fun g => !(decide (g.base ≤ a) && decide (a < g.base + g.size))

namespace State

/-- `MemRead(addr, 1)` (R15, R202). -/
def readByte (s : State) (a : Word) : Byte := Memory.read s.mem a.toNat

/-- `MemWrite(addr, 1, v)` (R15, R202): discarded where `WRITABLE` is false. -/
def writeByte (s : State) (a : Word) (v : Byte) : State :=
  if Params.writable s.params a.toNat then { s with mem := Memory.write s.mem a.toNat v } else s

/-- `MemRead(addr, 2)` (R204): little-endian, the second address modulo 2^16. -/
def readWord (s : State) (a : Word) : Word := w16 (s.readByte (a + 1)) (s.readByte a)

/-- `MemWrite(addr, 2, v)` (R204, R208): the low byte, then the high byte. -/
def writeWord (s : State) (a v : Word) : State := (s.writeByte a (lo v)).writeByte (a + 1) (hi v)

/-- `push16(v)` (R16, R220). -/
def push16 (s : State) (v : Word) : State :=
  let s1 := s.set .sp (s.get .sp - 2)
  s1.writeWord (s1.get .sp) v

/-- The word `pop16()` returns (R16). -/
def popValue (s : State) : Word := s.readWord (s.get .sp)

/-- The state `pop16()` leaves (R16). -/
def popDone (s : State) : State := s.set .sp (s.get .sp + 2)

/-! ## Ports (20_memory.md R209 to R211) -/

/-- The value `PortRead(port, upper)` returns: the next answer the devices have ready, or the free value (log 2). -/
def portValue (s : State) (port upper : Byte) : Byte :=
  match s.portIn with
  | v :: _ => v
  | [] => Config.portRead port upper s.portLog

/-- The state after `PortRead(port, upper)`: no core state changes; the answer is used and the access recorded. -/
def portRead (s : State) (port upper : Byte) : State :=
  { s with portIn := s.portIn.tail, portLog := .read port upper (s.portValue port upper) :: s.portLog }

/-- `PortWrite(port, upper, v)` (R211): no core state changes; the access is recorded for the host. -/
def portWrite (s : State) (port upper v : Byte) : State :=
  { s with portLog := .write port upper v :: s.portLog }

/-! ## Free values -/

/-- The byte the next draw of R1021 gives. -/
def drawnLatch (s : State) : Byte := Config.bitLatch s.draws

/-- A draw made. -/
def drawDone (s : State) : State := { s with draws := s.draws + 1 }

/-! ## The refresh and the clock -/

/-- `refresh(k)` (R404): bits 6..0 of R count modulo 128, bit 7 is kept. -/
def refresh (s : State) (k : Nat) : State :=
  s.setLo .ir ((s.r &&& 0x80#8) ||| ((s.r + BitVec.ofNat 8 k) &&& 0x7F#8))

/-- The clock advanced by `n` T-states. -/
def tick (s : State) (n : Nat) : State := { s with clock := s.clock + n }

end State

/-! ## The sequencer (R400, R401, R402) -/

/-- What an instruction's effect ends in: a completion state (R402), or a fatal fault raised (R1410). -/
inductive Effect where
  | done (c : Completion) (s : State)
  | fatal (k : FatalKind) (s : State)
  deriving DecidableEq, Repr

/-- The clock charge of a completion state (R402). An instruction with no slow path never completes slowly; its T
is charged there (log 10). -/
def Desc.charge (d : Desc) (c : Completion) : Nat :=
  match c with
  | .next => d.t
  | .again => d.t
  | .nextSlow => d.tSlow.getD d.t
  | .againSlow => d.tSlow.getD d.t

/-- The PC after a completion state (R402, R403): the length is added unless the effect wrote the PC. -/
def State.advance (s : State) (d : Desc) (c : Completion) : State :=
  match c with
  | .next => s.set .pc (s.get .pc + BitVec.ofNat 16 d.length)
  | .nextSlow => s.set .pc (s.get .pc + BitVec.ofNat 16 d.length)
  | .again => s
  | .againSlow => s

/-- The refresh of a step where R_REFRESH_ORDER puts it (R401, D15). -/
def State.refreshIf (s : State) (o : RefreshOrder) (k : Nat) : State :=
  if s.params.refreshOrder = o then s.refresh k else s

/-- What the result of the step shows (R402, R1424): the report replaces that of the step before, which nothing has
read; none where nothing completed (log 17). -/
def State.reporting (s : State) (r : Option StepReport) : State := { s with report := r }

/-- An instruction run by the sequencer (R401): refresh before, effect, PC, clock, refresh after; its descriptor and
completion state are shown (R402). A fatal fault stops it at the raise, with the changes made before it kept (R408,
R1410), and no completion. -/
def sequencer (d : Desc) (effect : State → Effect) (s : State) : Result :=
  match effect (s.refreshIf .beforeExecute d.rDelta) with
  | .done c t =>
    .next ((((t.advance d c).tick (d.charge c)).refreshIf .afterExecute d.rDelta).reporting (some ⟨d, c⟩))
  | .fatal k t => .next (State.reporting { t with fatal := some k } none)

/-- An instruction that completes `Next`. -/
def straight (len t rDelta : Nat) (effect : State → State) (s : State) : Result :=
  sequencer ⟨len, t, none, rDelta⟩ (fun s => .done .next (effect s)) s

/-- An instruction that writes the PC and completes `Repeat`. -/
def jumping (len t rDelta : Nat) (effect : State → State) (s : State) : Result :=
  sequencer ⟨len, t, none, rDelta⟩ (fun s => .done .again (effect s)) s

/-! ## The interrupt controller (60_exceptions.md) -/

/-- `record_request()` for the step input `irq` (R1402). -/
def State.recordRequest (s : State) (irq : Bool) : State :=
  if irq then { s with intPending := true, intDeadline := s.clock + s.params.intDuration } else s

/-- The cost of an acceptance (R1407, D7): 13 T-states in modes 0 and 1, 19 in mode 2. -/
def acceptCost (im : BitVec 2) : Nat := if im = 0 ∨ im = 1 then 13 else 19

/-- The handler's address (R1406, D32): 0x0038, or the word at `(I << 8) | 0xFF` in mode 2. -/
def State.vector (s : State) : Word :=
  if s.im = 0 ∨ s.im = 1 then 0x0038#16 else s.readWord (w16 s.i 0xFF#8)

/-- `accept()` (R1406, R1407): the one way the machine takes an exception. The status saved is none; the PC is
pushed; IFF1 and IFF2 are cleared; the request is consumed; the halted sub-state ends. -/
def State.accept (s : State) : State :=
  let s1 := { s with iff1 := false, iff2 := false, intPending := false, halted := false }
  let s2 := s1.push16 (s1.get .pc)
  let s3 := s2.set .pc s2.vector
  (s3.tick (acceptCost s3.im)).refresh 1

/-- The return from an interrupt, `RETN` and `RETI` (47_control.md R1112, R1113): the PC is popped and IFF1 takes
IFF2; nothing else is restored (R1412). -/
def State.returnFromInterrupt (s : State) : State :=
  let s1 := s.popDone.set .pc s.popValue
  { s1 with iff1 := s1.iff2 }

/-- `interrupt_check()` (R1403, D8), with the lapse (R1404), the mask (R1405), the EI delay (R1304) and the fatal
fault of IM = 3 (R1410). -/
def State.interruptCheck (s : State) : State :=
  let s1 := { s with intInhibit := false }
  if s.intPending = false then s1
  else if s.intDeadline ≤ s.clock then { s1 with intPending := false }
  else if s.iff1 = false then s1
  else if s.intInhibit = true then s1
  else if s.im = 3 then { s1 with fatal := some .badInterruptMode }
  else s1.accept

/-! ## Around an instruction (R401, R405, R409) -/

/-- A halted step: nothing is fetched, so nothing completes; 4 T-states, one refresh (R405, D9). -/
def State.haltedStep (s : State) : State := ((s.tick 4).refresh 1).reporting none

/-- The end of a step (R401): the step's input IRQ is taken from the queue; unless a fatal fault ended the step, a
request is recorded and the interrupt check runs (R1409; log 3). -/
def State.endStep (s : State) : State :=
  let s1 := { s with irqQueue := s.irqQueue.tail }
  if s.fatal.isSome then s1 else (s1.recordRequest (s.irqQueue.headD false)).interruptCheck

/-- `Fetch(k)` (R15): the k-th byte at the PC. -/
def State.fetch (s : State) (k : Nat) : Byte := s.readByte (s.get .pc + BitVec.ofNat 16 k)

/-- Bytes placed in memory from an address on by the host, whatever `WRITABLE` says (R1503, R202; log 16). -/
def State.loadBytes (s : State) (a : Word) (bs : List Byte) : State :=
  match bs with
  | [] => s
  | b :: bs => State.loadBytes { s with mem := Memory.write s.mem a.toNat b } (a + 1) bs

end Sys2Proof.Machine
end

