-- ==== Sys2Proof/Machine/Operands.lean ====
section
/-! DEFINITION. Every operand form of the spec: 8-bit registers, pairs, index registers and their halves, the
displaced address, conditions, and the read-modify-write forms over them. -/

namespace Sys2Proof.Machine

/-- The pair `rp[p]` of an instruction outside the `DD`/`FD` tables (30_encoding.md R311). -/
def pairReg (p : Pair) : Reg16 :=
  match p with
  | .bc => .bc | .de => .de | .hl => .hl | .sp => .sp

/-- The pair `rp2[q]` of `PUSH` and `POP` (30_encoding.md R312). -/
def pairAfReg (q : PairAf) : Reg16 :=
  match q with
  | .bc => .bc | .de => .de | .hl => .hl | .af => .af

/-- `idx`: IX after `DD`, IY after `FD` (30_encoding.md R305). -/
def idxReg (x : Idx) : Reg16 :=
  match x with
  | .ix => .ix | .iy => .iy

/-- The source pair of `ADD IX,rr`: code 10 is the index register itself (45_alu16.md R904). -/
def idxPairReg (x : Idx) (p : Pair) : Reg16 :=
  match p with
  | .bc => .bc | .de => .de | .hl => idxReg x | .sp => .sp

/-- The register that holds `reg8[r]` (R310). -/
def reg8Home (r : Reg8) : Reg16 :=
  match r with
  | .b => .bc | .c => .bc | .d => .de | .e => .de | .h => .hl | .l => .hl | .a => .af

/-- The half of that register (10_state.md R101). -/
def reg8Half (r : Reg8) : Half :=
  match r with
  | .b => .high | .c => .low | .d => .high | .e => .low | .h => .high | .l => .low | .a => .high

namespace State

/-- Read a half of a register (R101). -/
def getHalf (s : State) (g : Reg16) (h : Half) : Byte :=
  match h with
  | .high => hi (s.get g)
  | .low => lo (s.get g)

/-- Write a half of a register, the other half kept (R101). -/
def setHalf (s : State) (g : Reg16) (h : Half) (v : Byte) : State :=
  match h with
  | .high => s.setHi g v
  | .low => s.setLo g v

/-- `reg8[r]` (R310). -/
def reg8 (s : State) (r : Reg8) : Byte := s.getHalf (reg8Home r) (reg8Half r)

/-- `reg8[r] <- v`. -/
def setReg8 (s : State) (r : Reg8) (v : Byte) : State := s.setHalf (reg8Home r) (reg8Half r) v

/-- `xh(h)`: IXH, IXL, IYH or IYL (30_encoding.md R301, R305). -/
def xh (s : State) (x : Idx) (h : Half) : Byte := s.getHalf (idxReg x) h

/-- `xh(h) <- v`. -/
def setXh (s : State) (x : Idx) (h : Half) (v : Byte) : State := s.setHalf (idxReg x) h v

/-- `EA(d) = (idx + sext_16(d)) mod 2^16` (41_load8.md). -/
def ea (s : State) (x : Idx) (d : Byte) : Word := s.get (idxReg x) + sext16 d

/-- `cond(c)` (30_encoding.md R314). -/
def cond (s : State) (cc : Cond) : Bool :=
  match cc with
  | .nz => !fZ s.f | .z => fZ s.f | .nc => !fC s.f | .c => fC s.f
  | .po => !fPV s.f | .pe => fPV s.f | .p => !fS s.f | .m => fS s.f

/-! ## Read-modify-write: a helper gives the byte to write back and the F to write -/

/-- An accumulator operation on `src` (44_alu8.md R800). -/
def accumulate (s : State) (op : AluOp) (src : Byte) : State := s.setAF (alu8 op s.a src s.f)

/-- A byte and F written: the byte to `reg8[r]`. -/
def putReg8 (s : State) (r : Reg8) (v : Byte × Byte) : State := (s.setReg8 r v.1).setF v.2

/-- A byte and F written: the byte to an index half. -/
def putXh (s : State) (x : Idx) (h : Half) (v : Byte × Byte) : State := (s.setXh x h v.1).setF v.2

/-- A byte and F written: the byte to memory. -/
def putByte (s : State) (a : Word) (v : Byte × Byte) : State := (s.writeByte a v.1).setF v.2

/-- A byte written to memory, then copied to `reg8[r]` (46_rotate_bit.md R1010, R1023). -/
def writeCopy (s : State) (a : Word) (r : Reg8) (v : Byte) : State := (s.writeByte a v).setReg8 r v

/-- A rotate or shift of a byte in memory (R1010). -/
def rotMem (s : State) (op : RotOp) (a : Word) : State := s.putByte a (rotCb op (s.readByte a) s.f)

/-- A rotate or shift of a byte in memory with the copy into `reg8[r]` (R1010). -/
def rotMemCopy (s : State) (op : RotOp) (a : Word) (r : Reg8) : State :=
  let v := rotCb op (s.readByte a) s.f
  (s.writeCopy a r v.1).setF v.2

/-- The target of a relative jump of two bytes (47_control.md R1103). -/
def relative (s : State) (e : Byte) : Word := s.get .pc + 2 + sext16 e

/-- A call whose return address is `len` bytes on (47_control.md R1108, R1120). -/
def callTo (s : State) (len : Nat) (target : Word) : State :=
  (s.push16 (s.get .pc + BitVec.ofNat 16 len)).set .pc target

/-- A return (47_control.md R1110). -/
def returnTo (s : State) : State := s.popDone.set .pc s.popValue

end State

end Sys2Proof.Machine
end

