-- ==== Sys2Proof/Machine/Alu16.lean ====
section
/-! DEFINITION. The meanings of the 16-bit arithmetic instructions (45_alu16.md). -/

namespace Sys2Proof.Machine

/-- A word and F written: the word to a register. -/
def State.putWord (s : State) (g : Reg16) (v : Word × Byte) : State := (s.set g v.1).setF v.2

/-- `ADD HL,p` (R901). -/
def execAddHlPair (p : Pair) (s : State) : Result :=
  straight 1 11 1 (fun s => s.putWord .hl (add16 (s.get .hl) (s.get (pairReg p)) s.f)) s

/-- `ADC HL,p` (R902). -/
def execAdcHlPair (p : Pair) (s : State) : Result :=
  straight 2 15 2 (fun s => s.putWord .hl (adc16 (s.get .hl) (s.get (pairReg p)) (fC s.f))) s

/-- `SBC HL,p` (R903). -/
def execSbcHlPair (p : Pair) (s : State) : Result :=
  straight 2 15 2 (fun s => s.putWord .hl (sbc16 (s.get .hl) (s.get (pairReg p)) (fC s.f))) s

/-- `ADD IX,p` (R904). -/
def execAddIdxPair (x : Idx) (p : Pair) (s : State) : Result :=
  straight 2 15 2 (fun s => s.putWord (idxReg x) (add16 (s.get (idxReg x)) (s.get (idxPairReg x p)) s.f)) s

/-- `INC p` (R905). -/
def execIncPair (p : Pair) (s : State) : Result :=
  straight 1 6 1 (fun s => s.set (pairReg p) (s.get (pairReg p) + 1)) s

/-- `DEC p` (R906). -/
def execDecPair (p : Pair) (s : State) : Result :=
  straight 1 6 1 (fun s => s.set (pairReg p) (s.get (pairReg p) - 1)) s

/-- `INC IX` (R907). -/
def execIncIdx (x : Idx) (s : State) : Result := straight 2 10 2 (fun s => s.set (idxReg x) (s.get (idxReg x) + 1)) s

/-- `DEC IX` (R908). -/
def execDecIdx (x : Idx) (s : State) : Result := straight 2 10 2 (fun s => s.set (idxReg x) (s.get (idxReg x) - 1)) s

end Sys2Proof.Machine
end

