-- ==== Sys2Proof/Machine/Alu8.lean ====
section
/-! DEFINITION. The meanings of the 8-bit arithmetic and logic instructions (44_alu8.md). -/

namespace Sys2Proof.Machine

/-- `ADD A,s` (R820). -/
def execAddAReg (r : Reg8) (s : State) : Result := straight 1 4 1 (fun s => s.accumulate .add (s.reg8 r)) s

/-- `ADD A,(HL)` (R820). -/
def execAddAMemHl (s : State) : Result := straight 1 7 1 (fun s => s.accumulate .add (s.readByte (s.get .hl))) s

/-- `ADD A,n` (R820). -/
def execAddAImm (n : Byte) (s : State) : Result := straight 2 7 1 (fun s => s.accumulate .add n) s

/-- `ADD A,(IX+d)` (R820). -/
def execAddAMemIdx (x : Idx) (d : Byte) (s : State) : Result :=
  straight 3 19 2 (fun s => s.accumulate .add (s.readByte (s.ea x d))) s

/-- `ADD A,IXh` (R820). -/
def execAddAHalf (x : Idx) (h : Half) (s : State) : Result := straight 2 8 2 (fun s => s.accumulate .add (s.xh x h)) s

/-- `ADC A,s` (R821). -/
def execAdcAReg (r : Reg8) (s : State) : Result := straight 1 4 1 (fun s => s.accumulate .adc (s.reg8 r)) s

/-- `ADC A,(HL)` (R821). -/
def execAdcAMemHl (s : State) : Result := straight 1 7 1 (fun s => s.accumulate .adc (s.readByte (s.get .hl))) s

/-- `ADC A,n` (R821). -/
def execAdcAImm (n : Byte) (s : State) : Result := straight 2 7 1 (fun s => s.accumulate .adc n) s

/-- `ADC A,(IX+d)` (R821). -/
def execAdcAMemIdx (x : Idx) (d : Byte) (s : State) : Result :=
  straight 3 19 2 (fun s => s.accumulate .adc (s.readByte (s.ea x d))) s

/-- `ADC A,IXh` (R821). -/
def execAdcAHalf (x : Idx) (h : Half) (s : State) : Result := straight 2 8 2 (fun s => s.accumulate .adc (s.xh x h)) s

/-- `SUB s` (R822). -/
def execSubAReg (r : Reg8) (s : State) : Result := straight 1 4 1 (fun s => s.accumulate .sub (s.reg8 r)) s

/-- `SUB (HL)` (R822). -/
def execSubAMemHl (s : State) : Result := straight 1 7 1 (fun s => s.accumulate .sub (s.readByte (s.get .hl))) s

/-- `SUB n` (R822). -/
def execSubAImm (n : Byte) (s : State) : Result := straight 2 7 1 (fun s => s.accumulate .sub n) s

/-- `SUB (IX+d)` (R822). -/
def execSubAMemIdx (x : Idx) (d : Byte) (s : State) : Result :=
  straight 3 19 2 (fun s => s.accumulate .sub (s.readByte (s.ea x d))) s

/-- `SUB IXh` (R822). -/
def execSubAHalf (x : Idx) (h : Half) (s : State) : Result := straight 2 8 2 (fun s => s.accumulate .sub (s.xh x h)) s

/-- `SBC A,s` (R823). -/
def execSbcAReg (r : Reg8) (s : State) : Result := straight 1 4 1 (fun s => s.accumulate .sbc (s.reg8 r)) s

/-- `SBC A,(HL)` (R823). -/
def execSbcAMemHl (s : State) : Result := straight 1 7 1 (fun s => s.accumulate .sbc (s.readByte (s.get .hl))) s

/-- `SBC A,n` (R823). -/
def execSbcAImm (n : Byte) (s : State) : Result := straight 2 7 1 (fun s => s.accumulate .sbc n) s

/-- `SBC A,(IX+d)` (R823). -/
def execSbcAMemIdx (x : Idx) (d : Byte) (s : State) : Result :=
  straight 3 19 2 (fun s => s.accumulate .sbc (s.readByte (s.ea x d))) s

/-- `SBC A,IXh` (R823). -/
def execSbcAHalf (x : Idx) (h : Half) (s : State) : Result := straight 2 8 2 (fun s => s.accumulate .sbc (s.xh x h)) s

/-- `AND s` (R824). -/
def execAndAReg (r : Reg8) (s : State) : Result := straight 1 4 1 (fun s => s.accumulate .and (s.reg8 r)) s

/-- `AND (HL)` (R824). -/
def execAndAMemHl (s : State) : Result := straight 1 7 1 (fun s => s.accumulate .and (s.readByte (s.get .hl))) s

/-- `AND n` (R824). -/
def execAndAImm (n : Byte) (s : State) : Result := straight 2 7 1 (fun s => s.accumulate .and n) s

/-- `AND (IX+d)` (R824). -/
def execAndAMemIdx (x : Idx) (d : Byte) (s : State) : Result :=
  straight 3 19 2 (fun s => s.accumulate .and (s.readByte (s.ea x d))) s

/-- `AND IXh` (R824). -/
def execAndAHalf (x : Idx) (h : Half) (s : State) : Result := straight 2 8 2 (fun s => s.accumulate .and (s.xh x h)) s

/-- `XOR s` (R825). -/
def execXorAReg (r : Reg8) (s : State) : Result := straight 1 4 1 (fun s => s.accumulate .xor (s.reg8 r)) s

/-- `XOR (HL)` (R825). -/
def execXorAMemHl (s : State) : Result := straight 1 7 1 (fun s => s.accumulate .xor (s.readByte (s.get .hl))) s

/-- `XOR n` (R825). -/
def execXorAImm (n : Byte) (s : State) : Result := straight 2 7 1 (fun s => s.accumulate .xor n) s

/-- `XOR (IX+d)` (R825). -/
def execXorAMemIdx (x : Idx) (d : Byte) (s : State) : Result :=
  straight 3 19 2 (fun s => s.accumulate .xor (s.readByte (s.ea x d))) s

/-- `XOR IXh` (R825). -/
def execXorAHalf (x : Idx) (h : Half) (s : State) : Result := straight 2 8 2 (fun s => s.accumulate .xor (s.xh x h)) s

/-- `OR s` (R826). -/
def execOrAReg (r : Reg8) (s : State) : Result := straight 1 4 1 (fun s => s.accumulate .or (s.reg8 r)) s

/-- `OR (HL)` (R826). -/
def execOrAMemHl (s : State) : Result := straight 1 7 1 (fun s => s.accumulate .or (s.readByte (s.get .hl))) s

/-- `OR n` (R826). -/
def execOrAImm (n : Byte) (s : State) : Result := straight 2 7 1 (fun s => s.accumulate .or n) s

/-- `OR (IX+d)` (R826). -/
def execOrAMemIdx (x : Idx) (d : Byte) (s : State) : Result :=
  straight 3 19 2 (fun s => s.accumulate .or (s.readByte (s.ea x d))) s

/-- `OR IXh` (R826). -/
def execOrAHalf (x : Idx) (h : Half) (s : State) : Result := straight 2 8 2 (fun s => s.accumulate .or (s.xh x h)) s

/-- `CP s` (R827). -/
def execCpAReg (r : Reg8) (s : State) : Result := straight 1 4 1 (fun s => s.accumulate .cp (s.reg8 r)) s

/-- `CP (HL)` (R827). -/
def execCpAMemHl (s : State) : Result := straight 1 7 1 (fun s => s.accumulate .cp (s.readByte (s.get .hl))) s

/-- `CP n` (R827). -/
def execCpAImm (n : Byte) (s : State) : Result := straight 2 7 1 (fun s => s.accumulate .cp n) s

/-- `CP (IX+d)` (R827). -/
def execCpAMemIdx (x : Idx) (d : Byte) (s : State) : Result :=
  straight 3 19 2 (fun s => s.accumulate .cp (s.readByte (s.ea x d))) s

/-- `CP IXh` (R827). -/
def execCpAHalf (x : Idx) (h : Half) (s : State) : Result := straight 2 8 2 (fun s => s.accumulate .cp (s.xh x h)) s

/-- `INC r` (R830). -/
def execIncReg (r : Reg8) (s : State) : Result := straight 1 4 1 (fun s => s.putReg8 r (inc8 (s.reg8 r) s.f)) s

/-- `INC (HL)` (R830). -/
def execIncMemHl (s : State) : Result :=
  straight 1 11 1 (fun s => s.putByte (s.get .hl) (inc8 (s.readByte (s.get .hl)) s.f)) s

/-- `INC (IX+d)` (R830). -/
def execIncMemIdx (x : Idx) (d : Byte) (s : State) : Result :=
  straight 3 23 2 (fun s => s.putByte (s.ea x d) (inc8 (s.readByte (s.ea x d)) s.f)) s

/-- `INC IXh` (R830). -/
def execIncHalf (x : Idx) (h : Half) (s : State) : Result :=
  straight 2 8 2 (fun s => s.putXh x h (inc8 (s.xh x h) s.f)) s

/-- `DEC r` (R831). -/
def execDecReg (r : Reg8) (s : State) : Result := straight 1 4 1 (fun s => s.putReg8 r (dec8 (s.reg8 r) s.f)) s

/-- `DEC (HL)` (R831). -/
def execDecMemHl (s : State) : Result :=
  straight 1 11 1 (fun s => s.putByte (s.get .hl) (dec8 (s.readByte (s.get .hl)) s.f)) s

/-- `DEC (IX+d)` (R831). -/
def execDecMemIdx (x : Idx) (d : Byte) (s : State) : Result :=
  straight 3 23 2 (fun s => s.putByte (s.ea x d) (dec8 (s.readByte (s.ea x d)) s.f)) s

/-- `DEC IXh` (R831). -/
def execDecHalf (x : Idx) (h : Half) (s : State) : Result :=
  straight 2 8 2 (fun s => s.putXh x h (dec8 (s.xh x h) s.f)) s

/-- `DAA` (R840). -/
def execDaa (s : State) : Result :=
  sequencer ⟨1, 4, none, 1⟩ (fun s =>
    if s.params.daaMode = .strict ∧ daaInTable s.a s.f = false then .fatal .daaOutOfTable s
    else .done .next (s.setAF (daa8 s.a s.f))) s

/-- `CPL` (R841). -/
def execCpl (s : State) : Result := straight 1 4 1 (fun s => s.setAF (~~~s.a, cplFlags (~~~s.a) s.f)) s

/-- `NEG` (R842). -/
def execNeg (_z : BitVec 3) (s : State) : Result := straight 2 8 2 (fun s => s.setAF (sub8 0 s.a false)) s

/-- `CCF` (R843). -/
def execCcf (s : State) : Result := straight 1 4 1 (fun s => s.setF (ccfFlags s.a s.f)) s

/-- `SCF` (R844). -/
def execScf (s : State) : Result := straight 1 4 1 (fun s => s.setF (scfFlags s.a s.f)) s

end Sys2Proof.Machine
end

