-- ==== Sys2Proof/Machine/Block.lean ====
section
/-! DEFINITION. The meanings of the sixteen block instructions (43_block.md): one unit per step; a repeating form that
has not ended leaves the PC at itself and completes RepeatSlow (R700). -/

namespace Sys2Proof.Machine

/-- The direction of a block instruction (R700). -/
inductive Dir where
  | up | down
  deriving DecidableEq, Repr

/-- A pointer stepped, modulo 2^16 (R717). -/
def Dir.step (d : Dir) (w : Word) : Word :=
  match d with
  | .up => w + 1
  | .down => w - 1

/-- The byte a block input adds to the byte read: C + 1 or C - 1, modulo 2^8 (R709, R710). -/
def Dir.adjust (d : Dir) (v : Byte) : Byte :=
  match d with
  | .up => v + 1
  | .down => v - 1

namespace State

/-- The unit of `LDI` and `LDD` (R701, R702). -/
def ldUnit (s : State) (d : Dir) : State :=
  let v := s.readByte (s.get .hl)
  let s1 := s.writeByte (s.get .de) v
  let s2 := ((s1.set .hl (d.step (s.get .hl))).set .de (d.step (s.get .de))).set .bc (s.get .bc - 1)
  s2.setF (blockLoadFlags v s.a s.f (s2.get .bc != 0))

/-- The unit of `CPI` and `CPD` (R705, R706). -/
def cpUnit (s : State) (d : Dir) : State :=
  let v := s.readByte (s.get .hl)
  let s1 := (s.set .hl (d.step (s.get .hl))).set .bc (s.get .bc - 1)
  s1.setF (blockCompareFlags s.a v s.f (s1.get .bc != 0))

/-- The unit of `INI` and `IND` (R709, R710): the upper address byte is B before its decrement. -/
def inUnit (s : State) (d : Dir) : State :=
  let v := s.portValue (s.reg8 .c) (s.reg8 .b)
  let s1 := (s.portRead (s.reg8 .c) (s.reg8 .b)).writeByte (s.get .hl) v
  let s2 := (s1.set .hl (d.step (s.get .hl))).setReg8 .b (s.reg8 .b - 1)
  s2.setF (blockIoFlags v (s2.reg8 .b) (d.adjust (s.reg8 .c)))

/-- The unit of `OUTI` and `OUTD` (R713, R714): the upper address byte is B after its decrement, and `k` adds L
after the step of HL. -/
def outUnit (s : State) (d : Dir) : State :=
  let v := s.readByte (s.get .hl)
  let s1 := s.setReg8 .b (s.reg8 .b - 1)
  let s2 := (s1.portWrite (s1.reg8 .c) (s1.reg8 .b) v).set .hl (d.step (s.get .hl))
  s2.setF (blockIoFlags v (s2.reg8 .b) (s2.reg8 .l))

end State

/-- `LDI` (R701). -/
def execLdi (s : State) : Result := straight 2 16 2 (fun s => s.ldUnit .up) s

/-- `LDIR` (R703). -/
def execLdir (s : State) : Result :=
  sequencer ⟨2, 16, some 21, 2⟩ (fun s =>
    let t := s.ldUnit .up
    .done (if t.get .bc ≠ 0 then .againSlow else .next) t) s

/-- `LDD` (R702). -/
def execLdd (s : State) : Result := straight 2 16 2 (fun s => s.ldUnit .down) s

/-- `LDDR` (R704). -/
def execLddr (s : State) : Result :=
  sequencer ⟨2, 16, some 21, 2⟩ (fun s =>
    let t := s.ldUnit .down
    .done (if t.get .bc ≠ 0 then .againSlow else .next) t) s

/-- `CPI` (R705). -/
def execCpi (s : State) : Result := straight 2 16 2 (fun s => s.cpUnit .up) s

/-- `CPIR` (R707). -/
def execCpir (s : State) : Result :=
  sequencer ⟨2, 16, some 21, 2⟩ (fun s =>
    let t := s.cpUnit .up
    .done (if t.get .bc ≠ 0 ∧ s.a - s.readByte (s.get .hl) ≠ 0 then .againSlow else .next) t) s

/-- `CPD` (R706). -/
def execCpd (s : State) : Result := straight 2 16 2 (fun s => s.cpUnit .down) s

/-- `CPDR` (R708). -/
def execCpdr (s : State) : Result :=
  sequencer ⟨2, 16, some 21, 2⟩ (fun s =>
    let t := s.cpUnit .down
    .done (if t.get .bc ≠ 0 ∧ s.a - s.readByte (s.get .hl) ≠ 0 then .againSlow else .next) t) s

/-- `INI` (R709). -/
def execIni (s : State) : Result := straight 2 16 2 (fun s => s.inUnit .up) s

/-- `INIR` (R711). -/
def execInir (s : State) : Result :=
  sequencer ⟨2, 16, some 21, 2⟩ (fun s =>
    let t := s.inUnit .up
    .done (if t.reg8 .b ≠ 0 then .againSlow else .next) t) s

/-- `OUTI` (R713). -/
def execOuti (s : State) : Result := straight 2 16 2 (fun s => s.outUnit .up) s

/-- `OTIR` (R715). -/
def execOtir (s : State) : Result :=
  sequencer ⟨2, 16, some 21, 2⟩ (fun s =>
    let t := s.outUnit .up
    .done (if t.reg8 .b ≠ 0 then .againSlow else .next) t) s

/-- `IND` (R710). -/
def execInd (s : State) : Result := straight 2 16 2 (fun s => s.inUnit .down) s

/-- `INDR` (R712). -/
def execIndr (s : State) : Result :=
  sequencer ⟨2, 16, some 21, 2⟩ (fun s =>
    let t := s.inUnit .down
    .done (if t.reg8 .b ≠ 0 then .againSlow else .next) t) s

/-- `OUTD` (R714). -/
def execOutd (s : State) : Result := straight 2 16 2 (fun s => s.outUnit .down) s

/-- `OTDR` (R716). -/
def execOtdr (s : State) : Result :=
  sequencer ⟨2, 16, some 21, 2⟩ (fun s =>
    let t := s.outUnit .down
    .done (if t.reg8 .b ≠ 0 then .againSlow else .next) t) s

end Sys2Proof.Machine
end

