-- ==== Sys2Proof/Machine/Control.lean ====
section
/-! DEFINITION. The meanings of the jumps, calls, returns and restarts (47_control.md): a transfer that is taken
writes the PC and completes Repeat or RepeatSlow. -/

namespace Sys2Proof.Machine

/-- `JP nn` (R1101). -/
def execJp (nn : Word) (s : State) : Result := jumping 3 10 1 (fun s => s.set .pc nn) s

/-- `JP c,nn` (R1102). -/
def execJpCond (cc : Cond) (nn : Word) (s : State) : Result :=
  sequencer ⟨3, 10, none, 1⟩ (fun s =>
    if s.cond cc then .done .again (s.set .pc nn) else .done .next s) s

/-- `JR e` (R1103). -/
def execJr (e : Byte) (s : State) : Result := jumping 2 12 1 (fun s => s.set .pc (s.relative e)) s

/-- `JR c,e` (R1104). -/
def execJrCond (cc : Cond) (e : Byte) (s : State) : Result :=
  sequencer ⟨2, 7, some 12, 1⟩ (fun s =>
    if s.cond cc then .done .againSlow (s.set .pc (s.relative e)) else .done .next s) s

/-- `DJNZ e` (R1105). -/
def execDjnz (e : Byte) (s : State) : Result :=
  sequencer ⟨2, 8, some 13, 1⟩ (fun s =>
    let t := s.setReg8 .b (s.reg8 .b - 1)
    if t.reg8 .b ≠ 0 then .done .againSlow (t.set .pc (t.relative e)) else .done .next t) s

/-- `JP (HL)` (R1106). -/
def execJpHl (s : State) : Result := jumping 1 4 1 (fun s => s.set .pc (s.get .hl)) s

/-- `JP (IX)` (R1107). -/
def execJpIdx (x : Idx) (s : State) : Result := jumping 2 8 2 (fun s => s.set .pc (s.get (idxReg x))) s

/-- `CALL nn` (R1108). -/
def execCall (nn : Word) (s : State) : Result := jumping 3 17 1 (fun s => s.callTo 3 nn) s

/-- `CALL c,nn` (R1109). -/
def execCallCond (cc : Cond) (nn : Word) (s : State) : Result :=
  sequencer ⟨3, 10, some 17, 1⟩ (fun s =>
    if s.cond cc then .done .againSlow (s.callTo 3 nn) else .done .next s) s

/-- `RET` (R1110). -/
def execRet (s : State) : Result := jumping 1 10 1 (fun s => s.returnTo) s

/-- `RET c` (R1111). -/
def execRetCond (cc : Cond) (s : State) : Result :=
  sequencer ⟨1, 5, some 11, 1⟩ (fun s =>
    if s.cond cc then .done .againSlow s.returnTo else .done .next s) s

/-- `RETN` (R1112). -/
def execRetn (_z : BitVec 3) (s : State) : Result := jumping 2 14 2 (fun s => s.returnFromInterrupt) s

/-- `RETI` (R1113). -/
def execReti (s : State) : Result := jumping 2 14 2 (fun s => s.returnFromInterrupt) s

/-- `RST t` (R1120). -/
def execRst (t : BitVec 3) (s : State) : Result :=
  jumping 1 11 1 (fun s => s.callTo 1 (BitVec.ofNat 16 (t.toNat * 8))) s

end Sys2Proof.Machine
end

