-- ==== Sys2Proof/Machine/CpuControl.lean ====
section
/-! DEFINITION. The meanings of the CPU-control instructions and of the no-operation encodings (49_cpu_control.md). -/

namespace Sys2Proof.Machine

/-- `NOP` (R1301). -/
def execNop (s : State) : Result := straight 1 4 1 (fun s => s) s

/-- `HALT` (R1302). -/
def execHalt (s : State) : Result := straight 1 4 1 (fun s => { s with halted := true }) s

/-- `DI` (R1303). -/
def execDi (s : State) : Result := straight 1 4 1 (fun s => { s with iff1 := false, iff2 := false }) s

/-- `EI` (R1304). -/
def execEi (s : State) : Result :=
  straight 1 4 1 (fun s => { s with iff1 := true, iff2 := true, intInhibit := true }) s

/-- `IM 0` (R1305). -/
def execIm0 (_z : BitVec 1) (_z2 : BitVec 1) (s : State) : Result := straight 2 8 2 (fun s => { s with im := 0 }) s

/-- `IM 1` (R1306). -/
def execIm1 (_z : BitVec 1) (s : State) : Result := straight 2 8 2 (fun s => { s with im := 1 }) s

/-- `IM 2` (R1307). -/
def execIm2 (_z : BitVec 1) (s : State) : Result := straight 2 8 2 (fun s => { s with im := 2 }) s

/-- `NOP (prefix DD/FD)` (R1308). -/
def execNopPrefix (_x : Idx) (s : State) : Result := straight 1 4 1 (fun s => s) s

/-- `NOP (ED undefined)` (R1309). -/
def execNopEdLow (_z : BitVec 6) (s : State) : Result := straight 2 8 2 (fun s => s) s

/-- `NOP (ED undefined)` (R1309). -/
def execNopEdHigh (_z : BitVec 6) (s : State) : Result := straight 2 8 2 (fun s => s) s

/-- `NOP (ED undefined)` (R1309). -/
def execNopEdMid (_z : BitVec 5) (s : State) : Result := straight 2 8 2 (fun s => s) s

/-- `NOP (ED undefined)` (R1309). -/
def execNopEdBlock (_z : BitVec 2) (_z2 : BitVec 2) (s : State) : Result := straight 2 8 2 (fun s => s) s

/-- `NOP (ED undefined)` (R1309). -/
def execNopEdSeven (_z : BitVec 1) (s : State) : Result := straight 2 8 2 (fun s => s) s

end Sys2Proof.Machine
end

