-- ==== Sys2Proof/Machine/Io.lean ====
section
/-! DEFINITION. The meanings of the input and output instructions (48_io.md); those of the block are in Block.lean. -/

namespace Sys2Proof.Machine

/-- `IN A,(n)` (R1201). -/
def execInAImm (n : Byte) (s : State) : Result :=
  straight 2 11 1 (fun s => (s.portRead n s.a).setA (s.portValue n s.a)) s

/-- `OUT (n),A` (R1202). -/
def execOutImmA (n : Byte) (s : State) : Result := straight 2 11 1 (fun s => s.portWrite n s.a s.a) s

/-- `IN r,(C)` (R1203). -/
def execInRegC (r : Reg8) (s : State) : Result :=
  straight 2 12 2 (fun s => (s.portRead (s.reg8 .c) (s.reg8 .b)).putReg8 r
    (s.portValue (s.reg8 .c) (s.reg8 .b), parityFlags (s.portValue (s.reg8 .c) (s.reg8 .b)) s.f)) s

/-- `IN F,(C)` (R1204). -/
def execInFC (s : State) : Result :=
  straight 2 12 2 (fun s => (s.portRead (s.reg8 .c) (s.reg8 .b)).setF
    (parityFlags (s.portValue (s.reg8 .c) (s.reg8 .b)) s.f)) s

/-- `OUT (C),r` (R1205). -/
def execOutCReg (r : Reg8) (s : State) : Result :=
  straight 2 12 2 (fun s => s.portWrite (s.reg8 .c) (s.reg8 .b) (s.reg8 r)) s

/-- `OUT (C),0` (R1206). -/
def execOutCZero (s : State) : Result := straight 2 12 2 (fun s => s.portWrite (s.reg8 .c) (s.reg8 .b) 0) s

end Sys2Proof.Machine
end

