-- ==== Sys2Proof/Machine/Load16.lean ====
section
/-! DEFINITION. The meanings of the 16-bit loads, the stack and the exchanges (42_load16.md). -/

namespace Sys2Proof.Machine

/-- Two registers exchanged (42_load16.md R620 to R622). -/
def State.exchange (s : State) (p q : Reg16) : State := (s.set p (s.get q)).set q (s.get p)

/-- A register exchanged with the word at SP, read before it is written (42_load16.md R623, R624). -/
def State.exchangeTop (s : State) (p : Reg16) : State :=
  (s.writeWord (s.get .sp) (s.get p)).set p (s.readWord (s.get .sp))

/-- `LD p,nn` (R601). -/
def execLdPairImm (p : Pair) (nn : Word) (s : State) : Result := straight 3 10 1 (fun s => s.set (pairReg p) nn) s

/-- `LD HL,(nn)` (R602). -/
def execLdHlMemNn (nn : Word) (s : State) : Result := straight 3 16 1 (fun s => s.set .hl (s.readWord nn)) s

/-- `LD (nn),HL` (R603). -/
def execLdMemNnHl (nn : Word) (s : State) : Result := straight 3 16 1 (fun s => s.writeWord nn (s.get .hl)) s

/-- `LD p,(nn)` (R604). -/
def execLdPairMemNn (p : Pair) (nn : Word) (s : State) : Result :=
  straight 4 20 2 (fun s => s.set (pairReg p) (s.readWord nn)) s

/-- `LD (nn),p` (R605). -/
def execLdMemNnPair (p : Pair) (nn : Word) (s : State) : Result :=
  straight 4 20 2 (fun s => s.writeWord nn (s.get (pairReg p))) s

/-- `LD SP,HL` (R606). -/
def execLdSpHl (s : State) : Result := straight 1 6 1 (fun s => s.set .sp (s.get .hl)) s

/-- `LD IX,nn` (R607). -/
def execLdIdxImm (x : Idx) (nn : Word) (s : State) : Result := straight 4 14 2 (fun s => s.set (idxReg x) nn) s

/-- `LD IX,(nn)` (R608). -/
def execLdIdxMemNn (x : Idx) (nn : Word) (s : State) : Result :=
  straight 4 20 2 (fun s => s.set (idxReg x) (s.readWord nn)) s

/-- `LD (nn),IX` (R609). -/
def execLdMemNnIdx (x : Idx) (nn : Word) (s : State) : Result :=
  straight 4 20 2 (fun s => s.writeWord nn (s.get (idxReg x))) s

/-- `LD SP,IX` (R610). -/
def execLdSpIdx (x : Idx) (s : State) : Result := straight 2 10 2 (fun s => s.set .sp (s.get (idxReg x))) s

/-- `PUSH q` (R611). -/
def execPushPair (q : PairAf) (s : State) : Result := straight 1 11 1 (fun s => s.push16 (s.get (pairAfReg q))) s

/-- `POP q` (R612). -/
def execPopPair (q : PairAf) (s : State) : Result :=
  straight 1 10 1 (fun s => s.popDone.set (pairAfReg q) s.popValue) s

/-- `PUSH IX` (R613). -/
def execPushIdx (x : Idx) (s : State) : Result := straight 2 15 2 (fun s => s.push16 (s.get (idxReg x))) s

/-- `POP IX` (R614). -/
def execPopIdx (x : Idx) (s : State) : Result := straight 2 14 2 (fun s => s.popDone.set (idxReg x) s.popValue) s

/-- `EX AF,AF'` (R620). -/
def execExAfAf (s : State) : Result := straight 1 4 1 (fun s => s.exchange .af .shAf) s

/-- `EXX` (R621). -/
def execExx (s : State) : Result :=
  straight 1 4 1 (fun s => ((s.exchange .bc .shBc).exchange .de .shDe).exchange .hl .shHl) s

/-- `EX DE,HL` (R622). -/
def execExDeHl (s : State) : Result := straight 1 4 1 (fun s => s.exchange .de .hl) s

/-- `EX (SP),HL` (R623). -/
def execExMemSpHl (s : State) : Result := straight 1 19 1 (fun s => s.exchangeTop .hl) s

/-- `EX (SP),IX` (R624). -/
def execExMemSpIdx (x : Idx) (s : State) : Result := straight 2 23 2 (fun s => s.exchangeTop (idxReg x)) s

end Sys2Proof.Machine
end

