-- ==== Sys2Proof/Machine/Load8.lean ====
section
/-! DEFINITION. The meanings of the 8-bit loads (41_load8.md). Each is an effect run by the sequencer with the length,
T and ΔR of its rule. -/

namespace Sys2Proof.Machine

/-- `LD r,s` (R501). -/
def execLdRegReg (r : Reg8) (r2 : Reg8) (s : State) : Result := straight 1 4 1 (fun s => s.setReg8 r (s.reg8 r2)) s

/-- `LD r,n` (R502). -/
def execLdRegImm (r : Reg8) (n : Byte) (s : State) : Result := straight 2 7 1 (fun s => s.setReg8 r n) s

/-- `LD r,(HL)` (R503). -/
def execLdRegMemHl (r : Reg8) (s : State) : Result := straight 1 7 1 (fun s => s.setReg8 r (s.readByte (s.get .hl))) s

/-- `LD (HL),s` (R504). -/
def execLdMemHlReg (r : Reg8) (s : State) : Result := straight 1 7 1 (fun s => s.writeByte (s.get .hl) (s.reg8 r)) s

/-- `LD (HL),n` (R505). -/
def execLdMemHlImm (n : Byte) (s : State) : Result := straight 2 10 1 (fun s => s.writeByte (s.get .hl) n) s

/-- `LD A,(BC)` (R506). -/
def execLdAMemBc (s : State) : Result := straight 1 7 1 (fun s => s.setA (s.readByte (s.get .bc))) s

/-- `LD A,(DE)` (R507). -/
def execLdAMemDe (s : State) : Result := straight 1 7 1 (fun s => s.setA (s.readByte (s.get .de))) s

/-- `LD A,(nn)` (R508). -/
def execLdAMemNn (nn : Word) (s : State) : Result := straight 3 13 1 (fun s => s.setA (s.readByte nn)) s

/-- `LD (BC),A` (R509). -/
def execLdMemBcA (s : State) : Result := straight 1 7 1 (fun s => s.writeByte (s.get .bc) s.a) s

/-- `LD (DE),A` (R510). -/
def execLdMemDeA (s : State) : Result := straight 1 7 1 (fun s => s.writeByte (s.get .de) s.a) s

/-- `LD (nn),A` (R511). -/
def execLdMemNnA (nn : Word) (s : State) : Result := straight 3 13 1 (fun s => s.writeByte nn s.a) s

/-- `LD r,(IX+d)` (R512). -/
def execLdRegMemIdx (x : Idx) (r : Reg8) (d : Byte) (s : State) : Result :=
  straight 3 19 2 (fun s => s.setReg8 r (s.readByte (s.ea x d))) s

/-- `LD (IX+d),s` (R513). -/
def execLdMemIdxReg (x : Idx) (r : Reg8) (d : Byte) (s : State) : Result :=
  straight 3 19 2 (fun s => s.writeByte (s.ea x d) (s.reg8 r)) s

/-- `LD (IX+d),n` (R514). -/
def execLdMemIdxImm (x : Idx) (d : Byte) (n : Byte) (s : State) : Result :=
  straight 4 19 2 (fun s => s.writeByte (s.ea x d) n) s

/-- `LD r,IXh` (R515). -/
def execLdRegHalf (x : Idx) (r : Reg8) (h : Half) (s : State) : Result :=
  straight 2 8 2 (fun s => s.setReg8 r (s.xh x h)) s

/-- `LD IXh,s` (R515). -/
def execLdHalfReg (x : Idx) (h : Half) (r : Reg8) (s : State) : Result :=
  straight 2 8 2 (fun s => s.setXh x h (s.reg8 r)) s

/-- `LD IXh,IXk` (R515). -/
def execLdHalfHalf (x : Idx) (h : Half) (k : Half) (s : State) : Result :=
  straight 2 8 2 (fun s => s.setXh x h (s.xh x k)) s

/-- `LD IXh,n` (R516). -/
def execLdHalfImm (x : Idx) (h : Half) (n : Byte) (s : State) : Result := straight 3 11 2 (fun s => s.setXh x h n) s

/-- `LD A,I` (R517). -/
def execLdAI (s : State) : Result := straight 2 9 2 (fun s => s.setAF (s.i, ldAIrFlags s.i s.f s.iff2)) s

/-- `LD A,R` (R518). -/
def execLdAR (s : State) : Result := straight 2 9 2 (fun s => s.setAF (s.r, ldAIrFlags s.r s.f s.iff2)) s

/-- `LD I,A` (R519). -/
def execLdIA (s : State) : Result := straight 2 9 2 (fun s => s.setHi .ir s.a) s

/-- `LD R,A` (R520). -/
def execLdRA (s : State) : Result := straight 2 9 2 (fun s => s.setLo .ir s.a) s

end Sys2Proof.Machine
end

