-- ==== Sys2Proof/Machine/RotateBit.lean ====
section
/-! DEFINITION. The meanings of the rotates, shifts, bit operations and digit rotates (46_rotate_bit.md). -/

namespace Sys2Proof.Machine

/-- The byte `RLD` writes back: the low digit of the byte, then the low digit of A (R1025). -/
def rldMem (a t : Byte) : Byte := (t <<< 4) ||| (a &&& 0x0F#8)

/-- The A that `RLD` leaves (R1025). -/
def rldA (a t : Byte) : Byte := (a &&& 0xF0#8) ||| (t >>> 4)

/-- The byte `RRD` writes back: the low digit of A, then the high digit of the byte (R1026). -/
def rrdMem (a t : Byte) : Byte := ((a &&& 0x0F#8) <<< 4) ||| (t >>> 4)

/-- The A that `RRD` leaves (R1026). -/
def rrdA (a t : Byte) : Byte := (a &&& 0xF0#8) ||| (t &&& 0x0F#8)

/-- A byte written at HL and a new A with its flags (R1025, R1026). -/
def State.digits (s : State) (m a : Byte) : State := (s.writeByte (s.get .hl) m).setAF (a, parityFlags a s.f)

/-- `RLCA` (R1001). -/
def execRlca (s : State) : Result := straight 1 4 1 (fun s => s.setAF (rotA .rlc s.a s.f)) s

/-- `RRCA` (R1002). -/
def execRrca (s : State) : Result := straight 1 4 1 (fun s => s.setAF (rotA .rrc s.a s.f)) s

/-- `RLA` (R1003). -/
def execRla (s : State) : Result := straight 1 4 1 (fun s => s.setAF (rotA .rl s.a s.f)) s

/-- `RRA` (R1004). -/
def execRra (s : State) : Result := straight 1 4 1 (fun s => s.setAF (rotA .rr s.a s.f)) s

/-- `RLC r` (R1011). -/
def execRlcReg (r : Reg8) (s : State) : Result := straight 2 8 2 (fun s => s.putReg8 r (rotCb .rlc (s.reg8 r) s.f)) s

/-- `RLC (HL)` (R1011). -/
def execRlcMemHl (s : State) : Result := straight 2 15 2 (fun s => s.rotMem .rlc (s.get .hl)) s

/-- `RLC (IX+d)` (R1011). -/
def execRlcMemIdx (x : Idx) (d : Byte) (s : State) : Result := straight 4 23 2 (fun s => s.rotMem .rlc (s.ea x d)) s

/-- `LD r,RLC (IX+d)` (R1011). -/
def execRlcMemIdxCopy (x : Idx) (d : Byte) (r : Reg8) (s : State) : Result :=
  straight 4 23 2 (fun s => s.rotMemCopy .rlc (s.ea x d) r) s

/-- `RRC r` (R1012). -/
def execRrcReg (r : Reg8) (s : State) : Result := straight 2 8 2 (fun s => s.putReg8 r (rotCb .rrc (s.reg8 r) s.f)) s

/-- `RRC (HL)` (R1012). -/
def execRrcMemHl (s : State) : Result := straight 2 15 2 (fun s => s.rotMem .rrc (s.get .hl)) s

/-- `RRC (IX+d)` (R1012). -/
def execRrcMemIdx (x : Idx) (d : Byte) (s : State) : Result := straight 4 23 2 (fun s => s.rotMem .rrc (s.ea x d)) s

/-- `LD r,RRC (IX+d)` (R1012). -/
def execRrcMemIdxCopy (x : Idx) (d : Byte) (r : Reg8) (s : State) : Result :=
  straight 4 23 2 (fun s => s.rotMemCopy .rrc (s.ea x d) r) s

/-- `RL r` (R1013). -/
def execRlReg (r : Reg8) (s : State) : Result := straight 2 8 2 (fun s => s.putReg8 r (rotCb .rl (s.reg8 r) s.f)) s

/-- `RL (HL)` (R1013). -/
def execRlMemHl (s : State) : Result := straight 2 15 2 (fun s => s.rotMem .rl (s.get .hl)) s

/-- `RL (IX+d)` (R1013). -/
def execRlMemIdx (x : Idx) (d : Byte) (s : State) : Result := straight 4 23 2 (fun s => s.rotMem .rl (s.ea x d)) s

/-- `LD r,RL (IX+d)` (R1013). -/
def execRlMemIdxCopy (x : Idx) (d : Byte) (r : Reg8) (s : State) : Result :=
  straight 4 23 2 (fun s => s.rotMemCopy .rl (s.ea x d) r) s

/-- `RR r` (R1014). -/
def execRrReg (r : Reg8) (s : State) : Result := straight 2 8 2 (fun s => s.putReg8 r (rotCb .rr (s.reg8 r) s.f)) s

/-- `RR (HL)` (R1014). -/
def execRrMemHl (s : State) : Result := straight 2 15 2 (fun s => s.rotMem .rr (s.get .hl)) s

/-- `RR (IX+d)` (R1014). -/
def execRrMemIdx (x : Idx) (d : Byte) (s : State) : Result := straight 4 23 2 (fun s => s.rotMem .rr (s.ea x d)) s

/-- `LD r,RR (IX+d)` (R1014). -/
def execRrMemIdxCopy (x : Idx) (d : Byte) (r : Reg8) (s : State) : Result :=
  straight 4 23 2 (fun s => s.rotMemCopy .rr (s.ea x d) r) s

/-- `SLA r` (R1015). -/
def execSlaReg (r : Reg8) (s : State) : Result := straight 2 8 2 (fun s => s.putReg8 r (rotCb .sla (s.reg8 r) s.f)) s

/-- `SLA (HL)` (R1015). -/
def execSlaMemHl (s : State) : Result := straight 2 15 2 (fun s => s.rotMem .sla (s.get .hl)) s

/-- `SLA (IX+d)` (R1015). -/
def execSlaMemIdx (x : Idx) (d : Byte) (s : State) : Result := straight 4 23 2 (fun s => s.rotMem .sla (s.ea x d)) s

/-- `LD r,SLA (IX+d)` (R1015). -/
def execSlaMemIdxCopy (x : Idx) (d : Byte) (r : Reg8) (s : State) : Result :=
  straight 4 23 2 (fun s => s.rotMemCopy .sla (s.ea x d) r) s

/-- `SRA r` (R1016). -/
def execSraReg (r : Reg8) (s : State) : Result := straight 2 8 2 (fun s => s.putReg8 r (rotCb .sra (s.reg8 r) s.f)) s

/-- `SRA (HL)` (R1016). -/
def execSraMemHl (s : State) : Result := straight 2 15 2 (fun s => s.rotMem .sra (s.get .hl)) s

/-- `SRA (IX+d)` (R1016). -/
def execSraMemIdx (x : Idx) (d : Byte) (s : State) : Result := straight 4 23 2 (fun s => s.rotMem .sra (s.ea x d)) s

/-- `LD r,SRA (IX+d)` (R1016). -/
def execSraMemIdxCopy (x : Idx) (d : Byte) (r : Reg8) (s : State) : Result :=
  straight 4 23 2 (fun s => s.rotMemCopy .sra (s.ea x d) r) s

/-- `SLL r` (R1017). -/
def execSllReg (r : Reg8) (s : State) : Result := straight 2 8 2 (fun s => s.putReg8 r (rotCb .sll (s.reg8 r) s.f)) s

/-- `SLL (HL)` (R1017). -/
def execSllMemHl (s : State) : Result := straight 2 15 2 (fun s => s.rotMem .sll (s.get .hl)) s

/-- `SLL (IX+d)` (R1017). -/
def execSllMemIdx (x : Idx) (d : Byte) (s : State) : Result := straight 4 23 2 (fun s => s.rotMem .sll (s.ea x d)) s

/-- `LD r,SLL (IX+d)` (R1017). -/
def execSllMemIdxCopy (x : Idx) (d : Byte) (r : Reg8) (s : State) : Result :=
  straight 4 23 2 (fun s => s.rotMemCopy .sll (s.ea x d) r) s

/-- `SRL r` (R1018). -/
def execSrlReg (r : Reg8) (s : State) : Result := straight 2 8 2 (fun s => s.putReg8 r (rotCb .srl (s.reg8 r) s.f)) s

/-- `SRL (HL)` (R1018). -/
def execSrlMemHl (s : State) : Result := straight 2 15 2 (fun s => s.rotMem .srl (s.get .hl)) s

/-- `SRL (IX+d)` (R1018). -/
def execSrlMemIdx (x : Idx) (d : Byte) (s : State) : Result := straight 4 23 2 (fun s => s.rotMem .srl (s.ea x d)) s

/-- `LD r,SRL (IX+d)` (R1018). -/
def execSrlMemIdxCopy (x : Idx) (d : Byte) (r : Reg8) (s : State) : Result :=
  straight 4 23 2 (fun s => s.rotMemCopy .srl (s.ea x d) r) s

/-- `BIT b,r` (R1020). -/
def execBitReg (b : BitVec 3) (r : Reg8) (s : State) : Result :=
  straight 2 8 2 (fun s => s.setF (bitFlags b (s.reg8 r) (s.reg8 r) s.f)) s

/-- `BIT b,(HL)` (R1021). -/
def execBitMemHl (b : BitVec 3) (s : State) : Result :=
  straight 2 12 2 (fun s => s.drawDone.setF (bitFlags b (s.readByte (s.get .hl)) s.drawnLatch s.f)) s

/-- `BIT b,(IX+d)` (R1022). -/
def execBitMemIdx (x : Idx) (d : Byte) (b : BitVec 3) (_z : BitVec 3) (s : State) : Result :=
  straight 4 20 2 (fun s => s.setF (bitFlags b (s.readByte (s.ea x d)) (hi (s.ea x d)) s.f)) s

/-- `RES b,r` (R1023). -/
def execResReg (b : BitVec 3) (r : Reg8) (s : State) : Result :=
  straight 2 8 2 (fun s => s.setReg8 r (clearBit b (s.reg8 r))) s

/-- `RES b,(HL)` (R1023). -/
def execResMemHl (b : BitVec 3) (s : State) : Result :=
  straight 2 15 2 (fun s => s.writeByte (s.get .hl) (clearBit b (s.readByte (s.get .hl)))) s

/-- `RES b,(IX+d)` (R1023). -/
def execResMemIdx (x : Idx) (d : Byte) (b : BitVec 3) (s : State) : Result :=
  straight 4 23 2 (fun s => s.writeByte (s.ea x d) (clearBit b (s.readByte (s.ea x d)))) s

/-- `LD r,RES b,(IX+d)` (R1023). -/
def execResMemIdxCopy (x : Idx) (d : Byte) (b : BitVec 3) (r : Reg8) (s : State) : Result :=
  straight 4 23 2 (fun s => s.writeCopy (s.ea x d) r (clearBit b (s.readByte (s.ea x d)))) s

/-- `SET b,r` (R1024). -/
def execSetReg (b : BitVec 3) (r : Reg8) (s : State) : Result :=
  straight 2 8 2 (fun s => s.setReg8 r (raiseBit b (s.reg8 r))) s

/-- `SET b,(HL)` (R1024). -/
def execSetMemHl (b : BitVec 3) (s : State) : Result :=
  straight 2 15 2 (fun s => s.writeByte (s.get .hl) (raiseBit b (s.readByte (s.get .hl)))) s

/-- `SET b,(IX+d)` (R1024). -/
def execSetMemIdx (x : Idx) (d : Byte) (b : BitVec 3) (s : State) : Result :=
  straight 4 23 2 (fun s => s.writeByte (s.ea x d) (raiseBit b (s.readByte (s.ea x d)))) s

/-- `LD r,SET b,(IX+d)` (R1024). -/
def execSetMemIdxCopy (x : Idx) (d : Byte) (b : BitVec 3) (r : Reg8) (s : State) : Result :=
  straight 4 23 2 (fun s => s.writeCopy (s.ea x d) r (raiseBit b (s.readByte (s.ea x d)))) s

/-- `RLD` (R1025). -/
def execRld (s : State) : Result :=
  straight 2 18 2 (fun s => s.digits (rldMem s.a (s.readByte (s.get .hl))) (rldA s.a (s.readByte (s.get .hl)))) s

/-- `RRD` (R1026). -/
def execRrd (s : State) : Result :=
  straight 2 18 2 (fun s => s.digits (rrdMem s.a (s.readByte (s.get .hl))) (rrdA s.a (s.readByte (s.get .hl)))) s

end Sys2Proof.Machine
end

