-- ==== Sys2Proof/Machine/Dispatch.lean ====
section
/-! DEFINITION. One arm per constructor of Instr, each one call of its meaning. -/

namespace Sys2Proof.Machine

def exec (i : Instr) (s : State) : Host.Outcome State Fault Refusal :=
  match i with
  | .nop => Sys2Proof.Machine.execNop s
  | .ldPairImm p nn => Sys2Proof.Machine.execLdPairImm p nn s
  | .ldMemBcA => Sys2Proof.Machine.execLdMemBcA s
  | .ldMemDeA => Sys2Proof.Machine.execLdMemDeA s
  | .ldMemNnHl nn => Sys2Proof.Machine.execLdMemNnHl nn s
  | .ldMemNnA nn => Sys2Proof.Machine.execLdMemNnA nn s
  | .incPair p => Sys2Proof.Machine.execIncPair p s
  | .incReg r => Sys2Proof.Machine.execIncReg r s
  | .incMemHl => Sys2Proof.Machine.execIncMemHl s
  | .decReg r => Sys2Proof.Machine.execDecReg r s
  | .decMemHl => Sys2Proof.Machine.execDecMemHl s
  | .ldRegImm r n => Sys2Proof.Machine.execLdRegImm r n s
  | .ldMemHlImm n => Sys2Proof.Machine.execLdMemHlImm n s
  | .rlca => Sys2Proof.Machine.execRlca s
  | .rrca => Sys2Proof.Machine.execRrca s
  | .rla => Sys2Proof.Machine.execRla s
  | .rra => Sys2Proof.Machine.execRra s
  | .daa => Sys2Proof.Machine.execDaa s
  | .cpl => Sys2Proof.Machine.execCpl s
  | .scf => Sys2Proof.Machine.execScf s
  | .ccf => Sys2Proof.Machine.execCcf s
  | .exAfAf => Sys2Proof.Machine.execExAfAf s
  | .djnz e => Sys2Proof.Machine.execDjnz e s
  | .jr e => Sys2Proof.Machine.execJr e s
  | .jrCond cc e => Sys2Proof.Machine.execJrCond cc e s
  | .addHlPair p => Sys2Proof.Machine.execAddHlPair p s
  | .ldAMemBc => Sys2Proof.Machine.execLdAMemBc s
  | .ldAMemDe => Sys2Proof.Machine.execLdAMemDe s
  | .ldHlMemNn nn => Sys2Proof.Machine.execLdHlMemNn nn s
  | .ldAMemNn nn => Sys2Proof.Machine.execLdAMemNn nn s
  | .decPair p => Sys2Proof.Machine.execDecPair p s
  | .ldRegReg r r2 => Sys2Proof.Machine.execLdRegReg r r2 s
  | .ldRegMemHl r => Sys2Proof.Machine.execLdRegMemHl r s
  | .ldMemHlReg r => Sys2Proof.Machine.execLdMemHlReg r s
  | .halt => Sys2Proof.Machine.execHalt s
  | .addAReg r => Sys2Proof.Machine.execAddAReg r s
  | .addAMemHl => Sys2Proof.Machine.execAddAMemHl s
  | .addAImm n => Sys2Proof.Machine.execAddAImm n s
  | .addAMemIdx x d => Sys2Proof.Machine.execAddAMemIdx x d s
  | .addAHalf x h => Sys2Proof.Machine.execAddAHalf x h s
  | .adcAReg r => Sys2Proof.Machine.execAdcAReg r s
  | .adcAMemHl => Sys2Proof.Machine.execAdcAMemHl s
  | .adcAImm n => Sys2Proof.Machine.execAdcAImm n s
  | .adcAMemIdx x d => Sys2Proof.Machine.execAdcAMemIdx x d s
  | .adcAHalf x h => Sys2Proof.Machine.execAdcAHalf x h s
  | .subAReg r => Sys2Proof.Machine.execSubAReg r s
  | .subAMemHl => Sys2Proof.Machine.execSubAMemHl s
  | .subAImm n => Sys2Proof.Machine.execSubAImm n s
  | .subAMemIdx x d => Sys2Proof.Machine.execSubAMemIdx x d s
  | .subAHalf x h => Sys2Proof.Machine.execSubAHalf x h s
  | .sbcAReg r => Sys2Proof.Machine.execSbcAReg r s
  | .sbcAMemHl => Sys2Proof.Machine.execSbcAMemHl s
  | .sbcAImm n => Sys2Proof.Machine.execSbcAImm n s
  | .sbcAMemIdx x d => Sys2Proof.Machine.execSbcAMemIdx x d s
  | .sbcAHalf x h => Sys2Proof.Machine.execSbcAHalf x h s
  | .andAReg r => Sys2Proof.Machine.execAndAReg r s
  | .andAMemHl => Sys2Proof.Machine.execAndAMemHl s
  | .andAImm n => Sys2Proof.Machine.execAndAImm n s
  | .andAMemIdx x d => Sys2Proof.Machine.execAndAMemIdx x d s
  | .andAHalf x h => Sys2Proof.Machine.execAndAHalf x h s
  | .xorAReg r => Sys2Proof.Machine.execXorAReg r s
  | .xorAMemHl => Sys2Proof.Machine.execXorAMemHl s
  | .xorAImm n => Sys2Proof.Machine.execXorAImm n s
  | .xorAMemIdx x d => Sys2Proof.Machine.execXorAMemIdx x d s
  | .xorAHalf x h => Sys2Proof.Machine.execXorAHalf x h s
  | .orAReg r => Sys2Proof.Machine.execOrAReg r s
  | .orAMemHl => Sys2Proof.Machine.execOrAMemHl s
  | .orAImm n => Sys2Proof.Machine.execOrAImm n s
  | .orAMemIdx x d => Sys2Proof.Machine.execOrAMemIdx x d s
  | .orAHalf x h => Sys2Proof.Machine.execOrAHalf x h s
  | .cpAReg r => Sys2Proof.Machine.execCpAReg r s
  | .cpAMemHl => Sys2Proof.Machine.execCpAMemHl s
  | .cpAImm n => Sys2Proof.Machine.execCpAImm n s
  | .cpAMemIdx x d => Sys2Proof.Machine.execCpAMemIdx x d s
  | .cpAHalf x h => Sys2Proof.Machine.execCpAHalf x h s
  | .retCond cc => Sys2Proof.Machine.execRetCond cc s
  | .popPair q => Sys2Proof.Machine.execPopPair q s
  | .jpCond cc nn => Sys2Proof.Machine.execJpCond cc nn s
  | .jp nn => Sys2Proof.Machine.execJp nn s
  | .outImmA n => Sys2Proof.Machine.execOutImmA n s
  | .inAImm n => Sys2Proof.Machine.execInAImm n s
  | .exMemSpHl => Sys2Proof.Machine.execExMemSpHl s
  | .exDeHl => Sys2Proof.Machine.execExDeHl s
  | .di => Sys2Proof.Machine.execDi s
  | .ei => Sys2Proof.Machine.execEi s
  | .callCond cc nn => Sys2Proof.Machine.execCallCond cc nn s
  | .pushPair q => Sys2Proof.Machine.execPushPair q s
  | .call nn => Sys2Proof.Machine.execCall nn s
  | .rst t => Sys2Proof.Machine.execRst t s
  | .ret => Sys2Proof.Machine.execRet s
  | .exx => Sys2Proof.Machine.execExx s
  | .jpHl => Sys2Proof.Machine.execJpHl s
  | .ldSpHl => Sys2Proof.Machine.execLdSpHl s
  | .rlcReg r => Sys2Proof.Machine.execRlcReg r s
  | .rlcMemHl => Sys2Proof.Machine.execRlcMemHl s
  | .rlcMemIdx x d => Sys2Proof.Machine.execRlcMemIdx x d s
  | .rlcMemIdxCopy x d r => Sys2Proof.Machine.execRlcMemIdxCopy x d r s
  | .rrcReg r => Sys2Proof.Machine.execRrcReg r s
  | .rrcMemHl => Sys2Proof.Machine.execRrcMemHl s
  | .rrcMemIdx x d => Sys2Proof.Machine.execRrcMemIdx x d s
  | .rrcMemIdxCopy x d r => Sys2Proof.Machine.execRrcMemIdxCopy x d r s
  | .rlReg r => Sys2Proof.Machine.execRlReg r s
  | .rlMemHl => Sys2Proof.Machine.execRlMemHl s
  | .rlMemIdx x d => Sys2Proof.Machine.execRlMemIdx x d s
  | .rlMemIdxCopy x d r => Sys2Proof.Machine.execRlMemIdxCopy x d r s
  | .rrReg r => Sys2Proof.Machine.execRrReg r s
  | .rrMemHl => Sys2Proof.Machine.execRrMemHl s
  | .rrMemIdx x d => Sys2Proof.Machine.execRrMemIdx x d s
  | .rrMemIdxCopy x d r => Sys2Proof.Machine.execRrMemIdxCopy x d r s
  | .slaReg r => Sys2Proof.Machine.execSlaReg r s
  | .slaMemHl => Sys2Proof.Machine.execSlaMemHl s
  | .slaMemIdx x d => Sys2Proof.Machine.execSlaMemIdx x d s
  | .slaMemIdxCopy x d r => Sys2Proof.Machine.execSlaMemIdxCopy x d r s
  | .sraReg r => Sys2Proof.Machine.execSraReg r s
  | .sraMemHl => Sys2Proof.Machine.execSraMemHl s
  | .sraMemIdx x d => Sys2Proof.Machine.execSraMemIdx x d s
  | .sraMemIdxCopy x d r => Sys2Proof.Machine.execSraMemIdxCopy x d r s
  | .sllReg r => Sys2Proof.Machine.execSllReg r s
  | .sllMemHl => Sys2Proof.Machine.execSllMemHl s
  | .sllMemIdx x d => Sys2Proof.Machine.execSllMemIdx x d s
  | .sllMemIdxCopy x d r => Sys2Proof.Machine.execSllMemIdxCopy x d r s
  | .srlReg r => Sys2Proof.Machine.execSrlReg r s
  | .srlMemHl => Sys2Proof.Machine.execSrlMemHl s
  | .srlMemIdx x d => Sys2Proof.Machine.execSrlMemIdx x d s
  | .srlMemIdxCopy x d r => Sys2Proof.Machine.execSrlMemIdxCopy x d r s
  | .bitReg b r => Sys2Proof.Machine.execBitReg b r s
  | .bitMemHl b => Sys2Proof.Machine.execBitMemHl b s
  | .bitMemIdx x d b z => Sys2Proof.Machine.execBitMemIdx x d b z s
  | .resReg b r => Sys2Proof.Machine.execResReg b r s
  | .resMemHl b => Sys2Proof.Machine.execResMemHl b s
  | .resMemIdx x d b => Sys2Proof.Machine.execResMemIdx x d b s
  | .resMemIdxCopy x d b r => Sys2Proof.Machine.execResMemIdxCopy x d b r s
  | .setReg b r => Sys2Proof.Machine.execSetReg b r s
  | .setMemHl b => Sys2Proof.Machine.execSetMemHl b s
  | .setMemIdx x d b => Sys2Proof.Machine.execSetMemIdx x d b s
  | .setMemIdxCopy x d b r => Sys2Proof.Machine.execSetMemIdxCopy x d b r s
  | .inRegC r => Sys2Proof.Machine.execInRegC r s
  | .inFC => Sys2Proof.Machine.execInFC s
  | .outCReg r => Sys2Proof.Machine.execOutCReg r s
  | .outCZero => Sys2Proof.Machine.execOutCZero s
  | .sbcHlPair p => Sys2Proof.Machine.execSbcHlPair p s
  | .adcHlPair p => Sys2Proof.Machine.execAdcHlPair p s
  | .ldMemNnPair p nn => Sys2Proof.Machine.execLdMemNnPair p nn s
  | .ldPairMemNn p nn => Sys2Proof.Machine.execLdPairMemNn p nn s
  | .neg z => Sys2Proof.Machine.execNeg z s
  | .retn z => Sys2Proof.Machine.execRetn z s
  | .reti => Sys2Proof.Machine.execReti s
  | .im0 z z2 => Sys2Proof.Machine.execIm0 z z2 s
  | .im1 z => Sys2Proof.Machine.execIm1 z s
  | .im2 z => Sys2Proof.Machine.execIm2 z s
  | .ldIA => Sys2Proof.Machine.execLdIA s
  | .ldRA => Sys2Proof.Machine.execLdRA s
  | .ldAI => Sys2Proof.Machine.execLdAI s
  | .ldAR => Sys2Proof.Machine.execLdAR s
  | .rrd => Sys2Proof.Machine.execRrd s
  | .rld => Sys2Proof.Machine.execRld s
  | .ldi => Sys2Proof.Machine.execLdi s
  | .cpi => Sys2Proof.Machine.execCpi s
  | .ini => Sys2Proof.Machine.execIni s
  | .outi => Sys2Proof.Machine.execOuti s
  | .ldd => Sys2Proof.Machine.execLdd s
  | .cpd => Sys2Proof.Machine.execCpd s
  | .ind => Sys2Proof.Machine.execInd s
  | .outd => Sys2Proof.Machine.execOutd s
  | .ldir => Sys2Proof.Machine.execLdir s
  | .cpir => Sys2Proof.Machine.execCpir s
  | .inir => Sys2Proof.Machine.execInir s
  | .otir => Sys2Proof.Machine.execOtir s
  | .lddr => Sys2Proof.Machine.execLddr s
  | .cpdr => Sys2Proof.Machine.execCpdr s
  | .indr => Sys2Proof.Machine.execIndr s
  | .otdr => Sys2Proof.Machine.execOtdr s
  | .nopEdLow z => Sys2Proof.Machine.execNopEdLow z s
  | .nopEdHigh z => Sys2Proof.Machine.execNopEdHigh z s
  | .nopEdMid z => Sys2Proof.Machine.execNopEdMid z s
  | .nopEdBlock z z2 => Sys2Proof.Machine.execNopEdBlock z z2 s
  | .nopEdSeven z => Sys2Proof.Machine.execNopEdSeven z s
  | .addIdxPair x p => Sys2Proof.Machine.execAddIdxPair x p s
  | .ldIdxImm x nn => Sys2Proof.Machine.execLdIdxImm x nn s
  | .ldMemNnIdx x nn => Sys2Proof.Machine.execLdMemNnIdx x nn s
  | .incIdx x => Sys2Proof.Machine.execIncIdx x s
  | .incHalf x h => Sys2Proof.Machine.execIncHalf x h s
  | .decHalf x h => Sys2Proof.Machine.execDecHalf x h s
  | .ldHalfImm x h n => Sys2Proof.Machine.execLdHalfImm x h n s
  | .ldIdxMemNn x nn => Sys2Proof.Machine.execLdIdxMemNn x nn s
  | .decIdx x => Sys2Proof.Machine.execDecIdx x s
  | .incMemIdx x d => Sys2Proof.Machine.execIncMemIdx x d s
  | .decMemIdx x d => Sys2Proof.Machine.execDecMemIdx x d s
  | .ldMemIdxImm x d n => Sys2Proof.Machine.execLdMemIdxImm x d n s
  | .ldRegHalf x r h => Sys2Proof.Machine.execLdRegHalf x r h s
  | .ldHalfReg x h r => Sys2Proof.Machine.execLdHalfReg x h r s
  | .ldHalfHalf x h k => Sys2Proof.Machine.execLdHalfHalf x h k s
  | .ldRegMemIdx x r d => Sys2Proof.Machine.execLdRegMemIdx x r d s
  | .ldMemIdxReg x r d => Sys2Proof.Machine.execLdMemIdxReg x r d s
  | .popIdx x => Sys2Proof.Machine.execPopIdx x s
  | .exMemSpIdx x => Sys2Proof.Machine.execExMemSpIdx x s
  | .pushIdx x => Sys2Proof.Machine.execPushIdx x s
  | .jpIdx x => Sys2Proof.Machine.execJpIdx x s
  | .ldSpIdx x => Sys2Proof.Machine.execLdSpIdx x s
  | .nopPrefix x => Sys2Proof.Machine.execNopPrefix x s

end Sys2Proof.Machine
end

