-- ==== Sys2Proof/WellFormed.lean ====
section
/-! DEFINITION. Which instruction terms the machine has. Almost every field is of a type that holds exactly the
values its encoding admits; the checks here are the `constraints` of spec/opcode_table.json that a type does not
express. -/

namespace Sys2Proof

/-- `JR c,e` takes only the first four conditions: "there is no `JR PO`, `JR PE`, `JR P` or `JR M`" (R1104). -/
def Cond.forJr : Cond → Bool
  | .nz | .z | .nc | .c => true
  | .po | .pe | .p | .m => false

/-- Under a prefix the codes 100 and 101 are the index halves, so H and L are unreachable (R515). -/
def Reg8.notHL : Reg8 → Bool
  | .h | .l => false
  | .b | .c | .d | .e | .a => true

/-- The well-formed instructions. -/
def Instr.wellFormed : Instr → Bool
  | .jrCond cc _ => cc.forJr
  | .ldRegHalf _ r _ => r.notHL
  | .ldHalfReg _ _ r => r.notHL
  | .retn z => z != 0b001#3
  | .nop | .ldPairImm .. | .ldMemBcA | .ldMemDeA | .ldMemNnHl .. | .ldMemNnA .. | .incPair .. | .incReg ..
  | .incMemHl | .decReg .. | .decMemHl | .ldRegImm .. | .ldMemHlImm .. | .rlca | .rrca | .rla | .rra | .daa
  | .cpl | .scf | .ccf | .exAfAf | .djnz .. | .jr .. | .addHlPair .. | .ldAMemBc | .ldAMemDe | .ldHlMemNn ..
  | .ldAMemNn .. | .decPair .. | .ldRegReg .. | .ldRegMemHl .. | .ldMemHlReg .. | .halt | .addAReg ..
  | .addAMemHl | .addAImm .. | .addAMemIdx .. | .addAHalf .. | .adcAReg .. | .adcAMemHl | .adcAImm ..
  | .adcAMemIdx .. | .adcAHalf .. | .subAReg .. | .subAMemHl | .subAImm .. | .subAMemIdx .. | .subAHalf ..
  | .sbcAReg .. | .sbcAMemHl | .sbcAImm .. | .sbcAMemIdx .. | .sbcAHalf .. | .andAReg .. | .andAMemHl
  | .andAImm .. | .andAMemIdx .. | .andAHalf .. | .xorAReg .. | .xorAMemHl | .xorAImm .. | .xorAMemIdx ..
  | .xorAHalf .. | .orAReg .. | .orAMemHl | .orAImm .. | .orAMemIdx .. | .orAHalf .. | .cpAReg .. | .cpAMemHl
  | .cpAImm .. | .cpAMemIdx .. | .cpAHalf .. | .retCond .. | .popPair .. | .jpCond .. | .jp .. | .outImmA ..
  | .inAImm .. | .exMemSpHl | .exDeHl | .di | .ei | .callCond .. | .pushPair .. | .call .. | .rst .. | .ret
  | .exx | .jpHl | .ldSpHl | .rlcReg .. | .rlcMemHl | .rlcMemIdx .. | .rlcMemIdxCopy .. | .rrcReg ..
  | .rrcMemHl | .rrcMemIdx .. | .rrcMemIdxCopy .. | .rlReg .. | .rlMemHl | .rlMemIdx .. | .rlMemIdxCopy ..
  | .rrReg .. | .rrMemHl | .rrMemIdx .. | .rrMemIdxCopy .. | .slaReg .. | .slaMemHl | .slaMemIdx ..
  | .slaMemIdxCopy .. | .sraReg .. | .sraMemHl | .sraMemIdx .. | .sraMemIdxCopy .. | .sllReg .. | .sllMemHl
  | .sllMemIdx .. | .sllMemIdxCopy .. | .srlReg .. | .srlMemHl | .srlMemIdx .. | .srlMemIdxCopy ..
  | .bitReg .. | .bitMemHl .. | .bitMemIdx .. | .resReg .. | .resMemHl .. | .resMemIdx .. | .resMemIdxCopy ..
  | .setReg .. | .setMemHl .. | .setMemIdx .. | .setMemIdxCopy .. | .inRegC .. | .inFC | .outCReg ..
  | .outCZero | .sbcHlPair .. | .adcHlPair .. | .ldMemNnPair .. | .ldPairMemNn .. | .neg .. | .reti | .im0 ..
  | .im1 .. | .im2 .. | .ldIA | .ldRA | .ldAI | .ldAR | .rrd | .rld | .ldi | .cpi | .ini | .outi | .ldd
  | .cpd | .ind | .outd | .ldir | .cpir | .inir | .otir | .lddr | .cpdr | .indr | .otdr | .nopEdLow ..
  | .nopEdHigh .. | .nopEdMid .. | .nopEdBlock .. | .nopEdSeven .. | .addIdxPair .. | .ldIdxImm ..
  | .ldMemNnIdx .. | .incIdx .. | .incHalf .. | .decHalf .. | .ldHalfImm .. | .ldIdxMemNn .. | .decIdx ..
  | .incMemIdx .. | .decMemIdx .. | .ldMemIdxImm .. | .ldHalfHalf .. | .ldRegMemIdx .. | .ldMemIdxReg ..
  | .popIdx .. | .exMemSpIdx .. | .pushIdx .. | .jpIdx .. | .ldSpIdx .. | .nopPrefix .. => true

end Sys2Proof
end

