-- ==== Sys2Proof/Decode.lean ====
section
/-! DEFINITION. The encodings (30_encoding.md): the field tables, the decoder over a window of four bytes, the
decoder over a list of bytes, the encoder, and the opcode table's own numbering of an instruction's bits. -/

namespace Sys2Proof

/-! ## Field tables -/

/-- The code of a register (R310). -/
def Reg8.code : Reg8 → BitVec 3
  | .b => 0b000 | .c => 0b001 | .d => 0b010 | .e => 0b011
  | .h => 0b100 | .l => 0b101 | .a => 0b111

/-- The register of a code; 110 is the memory operand (R310). -/
def Reg8.ofCode (v : BitVec 3) : Option Reg8 :=
  match v with
  | 0b000#3 => some .b
  | 0b001#3 => some .c
  | 0b010#3 => some .d
  | 0b011#3 => some .e
  | 0b100#3 => some .h
  | 0b101#3 => some .l
  | 0b111#3 => some .a
  | _ => none

/-- The code of a pair `rp` (R311). -/
def Pair.code : Pair → BitVec 2
  | .bc => 0b00 | .de => 0b01 | .hl => 0b10 | .sp => 0b11

def Pair.ofCode (v : BitVec 2) : Pair :=
  match v with
  | 0b00#2 => .bc
  | 0b01#2 => .de
  | 0b10#2 => .hl
  | _ => .sp

/-- The code of a pair `rp2` (R312). -/
def PairAf.code : PairAf → BitVec 2
  | .bc => 0b00 | .de => 0b01 | .hl => 0b10 | .af => 0b11

def PairAf.ofCode (v : BitVec 2) : PairAf :=
  match v with
  | 0b00#2 => .bc
  | 0b01#2 => .de
  | 0b10#2 => .hl
  | _ => .af

/-- The code of a condition (R314). -/
def Cond.code : Cond → BitVec 3
  | .nz => 0b000 | .z => 0b001 | .nc => 0b010 | .c => 0b011
  | .po => 0b100 | .pe => 0b101 | .p => 0b110 | .m => 0b111

def Cond.ofCode (v : BitVec 3) : Cond :=
  match v with
  | 0b000#3 => .nz
  | 0b001#3 => .z
  | 0b010#3 => .nc
  | 0b011#3 => .c
  | 0b100#3 => .po
  | 0b101#3 => .pe
  | 0b110#3 => .p
  | _ => .m

/-- Bit 5 of the prefix byte: 0 is `DD` (IX), 1 is `FD` (IY) (R301). -/
def Idx.code : Idx → BitVec 1
  | .ix => 0 | .iy => 1

/-- The half bit: 0 is the high half, 1 the low half (R301). -/
def Half.code : Half → BitVec 1
  | .high => 0 | .low => 1

def Half.ofCode (v : BitVec 1) : Half :=
  match v with
  | 0b0#1 => .high
  | _ => .low

/-! ## The accumulator operations and the rotates, by operand form

The operation field is bits 5:3 (R313, R315). -/

def decodeAluReg (y : BitVec 3) (r : Reg8) : Instr :=
  match y with
  | 0b000#3 => .addAReg r
  | 0b001#3 => .adcAReg r
  | 0b010#3 => .subAReg r
  | 0b011#3 => .sbcAReg r
  | 0b100#3 => .andAReg r
  | 0b101#3 => .xorAReg r
  | 0b110#3 => .orAReg r
  | _ => .cpAReg r

def decodeAluMemHl (y : BitVec 3) : Instr :=
  match y with
  | 0b000#3 => .addAMemHl
  | 0b001#3 => .adcAMemHl
  | 0b010#3 => .subAMemHl
  | 0b011#3 => .sbcAMemHl
  | 0b100#3 => .andAMemHl
  | 0b101#3 => .xorAMemHl
  | 0b110#3 => .orAMemHl
  | _ => .cpAMemHl

def decodeAluImm (y : BitVec 3) (n : Byte) : Instr :=
  match y with
  | 0b000#3 => .addAImm n
  | 0b001#3 => .adcAImm n
  | 0b010#3 => .subAImm n
  | 0b011#3 => .sbcAImm n
  | 0b100#3 => .andAImm n
  | 0b101#3 => .xorAImm n
  | 0b110#3 => .orAImm n
  | _ => .cpAImm n

def decodeAluMemIdx (y : BitVec 3) (x : Idx) (d : Byte) : Instr :=
  match y with
  | 0b000#3 => .addAMemIdx x d
  | 0b001#3 => .adcAMemIdx x d
  | 0b010#3 => .subAMemIdx x d
  | 0b011#3 => .sbcAMemIdx x d
  | 0b100#3 => .andAMemIdx x d
  | 0b101#3 => .xorAMemIdx x d
  | 0b110#3 => .orAMemIdx x d
  | _ => .cpAMemIdx x d

def decodeAluHalf (y : BitVec 3) (x : Idx) (h : Half) : Instr :=
  match y with
  | 0b000#3 => .addAHalf x h
  | 0b001#3 => .adcAHalf x h
  | 0b010#3 => .subAHalf x h
  | 0b011#3 => .sbcAHalf x h
  | 0b100#3 => .andAHalf x h
  | 0b101#3 => .xorAHalf x h
  | 0b110#3 => .orAHalf x h
  | _ => .cpAHalf x h

def decodeRotReg (y : BitVec 3) (r : Reg8) : Instr :=
  match y with
  | 0b000#3 => .rlcReg r
  | 0b001#3 => .rrcReg r
  | 0b010#3 => .rlReg r
  | 0b011#3 => .rrReg r
  | 0b100#3 => .slaReg r
  | 0b101#3 => .sraReg r
  | 0b110#3 => .sllReg r
  | _ => .srlReg r

def decodeRotMemHl (y : BitVec 3) : Instr :=
  match y with
  | 0b000#3 => .rlcMemHl
  | 0b001#3 => .rrcMemHl
  | 0b010#3 => .rlMemHl
  | 0b011#3 => .rrMemHl
  | 0b100#3 => .slaMemHl
  | 0b101#3 => .sraMemHl
  | 0b110#3 => .sllMemHl
  | _ => .srlMemHl

def decodeRotMemIdx (y : BitVec 3) (x : Idx) (d : Byte) : Instr :=
  match y with
  | 0b000#3 => .rlcMemIdx x d
  | 0b001#3 => .rrcMemIdx x d
  | 0b010#3 => .rlMemIdx x d
  | 0b011#3 => .rrMemIdx x d
  | 0b100#3 => .slaMemIdx x d
  | 0b101#3 => .sraMemIdx x d
  | 0b110#3 => .sllMemIdx x d
  | _ => .srlMemIdx x d

def decodeRotMemIdxCopy (y : BitVec 3) (x : Idx) (d : Byte) (r : Reg8) : Instr :=
  match y with
  | 0b000#3 => .rlcMemIdxCopy x d r
  | 0b001#3 => .rrcMemIdxCopy x d r
  | 0b010#3 => .rlMemIdxCopy x d r
  | 0b011#3 => .rrMemIdxCopy x d r
  | 0b100#3 => .slaMemIdxCopy x d r
  | 0b101#3 => .sraMemIdxCopy x d r
  | 0b110#3 => .sllMemIdxCopy x d r
  | _ => .srlMemIdxCopy x d r

/-! ## The seven tables

`op` is the opcode byte, with the fields x = op[7:6], y = op[5:3], z = op[2:0], p = op[5:4], q = op[3] (R301). -/

def opX (op : Byte) : BitVec 2 := op.extractLsb' 6 2
def opY (op : Byte) : BitVec 3 := op.extractLsb' 3 3
def opZ (op : Byte) : BitVec 3 := op.extractLsb' 0 3
def opP (op : Byte) : BitVec 2 := op.extractLsb' 4 2
def opQ (op : Byte) : Bool := op.getLsbD 3

/-- The quarter `00xxxxxx` of the primary table (R320). -/
def decodePrimary0 (op b1 b2 : Byte) : Instr :=
  match opZ op with
  | 0b000#3 =>
    match opY op with
    | 0b000#3 => .nop
    | 0b001#3 => .exAfAf
    | 0b010#3 => .djnz b1
    | 0b011#3 => .jr b1
    | y => .jrCond (.ofCode (y &&& 0b011#3)) b1
  | 0b001#3 => if opQ op then .addHlPair (.ofCode (opP op)) else .ldPairImm (.ofCode (opP op)) (w16 b2 b1)
  | 0b010#3 =>
    match opY op with
    | 0b000#3 => .ldMemBcA
    | 0b001#3 => .ldAMemBc
    | 0b010#3 => .ldMemDeA
    | 0b011#3 => .ldAMemDe
    | 0b100#3 => .ldMemNnHl (w16 b2 b1)
    | 0b101#3 => .ldHlMemNn (w16 b2 b1)
    | 0b110#3 => .ldMemNnA (w16 b2 b1)
    | _ => .ldAMemNn (w16 b2 b1)
  | 0b011#3 => if opQ op then .decPair (.ofCode (opP op)) else .incPair (.ofCode (opP op))
  | 0b100#3 =>
    match Reg8.ofCode (opY op) with
    | some r => .incReg r
    | none => .incMemHl
  | 0b101#3 =>
    match Reg8.ofCode (opY op) with
    | some r => .decReg r
    | none => .decMemHl
  | 0b110#3 =>
    match Reg8.ofCode (opY op) with
    | some r => .ldRegImm r b1
    | none => .ldMemHlImm b1
  | _ =>
    match opY op with
    | 0b000#3 => .rlca
    | 0b001#3 => .rrca
    | 0b010#3 => .rla
    | 0b011#3 => .rra
    | 0b100#3 => .daa
    | 0b101#3 => .cpl
    | 0b110#3 => .scf
    | _ => .ccf

/-- The quarter `01xxxxxx` of the primary table: loads, and HALT in the place of `LD (HL),(HL)` (R320). -/
def decodePrimary1 (op : Byte) : Instr :=
  match Reg8.ofCode (opY op), Reg8.ofCode (opZ op) with
  | some r, some s => .ldRegReg r s
  | some r, none => .ldRegMemHl r
  | none, some s => .ldMemHlReg s
  | none, none => .halt

/-- The quarter `10xxxxxx` of the primary table: the accumulator operations (R320). -/
def decodePrimary2 (op : Byte) : Instr :=
  match Reg8.ofCode (opZ op) with
  | some r => decodeAluReg (opY op) r
  | none => decodeAluMemHl (opY op)

/-- The quarter `11xxxxxx` of the primary table (R320). The four bytes that select another table (`CB`, `DD`,
`ED`, `FD`) do not reach this function: `decodeWindow` takes them first (R302). -/
def decodePrimary3 (op b1 b2 : Byte) : Instr :=
  match opZ op with
  | 0b000#3 => .retCond (.ofCode (opY op))
  | 0b001#3 =>
    if opQ op then
      match opP op with
      | 0b00#2 => .ret
      | 0b01#2 => .exx
      | 0b10#2 => .jpHl
      | _ => .ldSpHl
    else .popPair (.ofCode (opP op))
  | 0b010#3 => .jpCond (.ofCode (opY op)) (w16 b2 b1)
  | 0b011#3 =>
    match opY op with
    | 0b010#3 => .outImmA b1
    | 0b011#3 => .inAImm b1
    | 0b100#3 => .exMemSpHl
    | 0b101#3 => .exDeHl
    | 0b110#3 => .di
    | 0b111#3 => .ei
    | _ => .jp (w16 b2 b1)
  | 0b100#3 => .callCond (.ofCode (opY op)) (w16 b2 b1)
  | 0b101#3 => if opQ op then .call (w16 b2 b1) else .pushPair (.ofCode (opP op))
  | 0b110#3 => decodeAluImm (opY op) b1
  | _ => .rst (opY op)

/-- The primary table (R320). -/
def decodePrimary (op b1 b2 : Byte) : Instr :=
  match opX op with
  | 0b00#2 => decodePrimary0 op b1 b2
  | 0b01#2 => decodePrimary1 op
  | 0b10#2 => decodePrimary2 op
  | _ => decodePrimary3 op b1 b2

/-- The `CB` table (R321). -/
def decodeCb (op : Byte) : Instr :=
  match opX op, Reg8.ofCode (opZ op) with
  | 0b00#2, some r => decodeRotReg (opY op) r
  | 0b00#2, none => decodeRotMemHl (opY op)
  | 0b01#2, some r => .bitReg (opY op) r
  | 0b01#2, none => .bitMemHl (opY op)
  | 0b10#2, some r => .resReg (opY op) r
  | 0b10#2, none => .resMemHl (opY op)
  | _, some r => .setReg (opY op) r
  | _, none => .setMemHl (opY op)

/-- The quarter `01xxxxxx` of the `ED` table (R322, R316). -/
def decodeEd1 (op b2 b3 : Byte) : Instr :=
  match opZ op with
  | 0b000#3 =>
    match Reg8.ofCode (opY op) with
    | some r => .inRegC r
    | none => .inFC
  | 0b001#3 =>
    match Reg8.ofCode (opY op) with
    | some r => .outCReg r
    | none => .outCZero
  | 0b010#3 => if opQ op then .adcHlPair (.ofCode (opP op)) else .sbcHlPair (.ofCode (opP op))
  | 0b011#3 =>
    if opQ op then .ldPairMemNn (.ofCode (opP op)) (w16 b3 b2) else .ldMemNnPair (.ofCode (opP op)) (w16 b3 b2)
  | 0b100#3 => .neg (opY op)
  | 0b101#3 => if opY op == 0b001#3 then .reti else .retn (opY op)
  | 0b110#3 =>
    if op.getLsbD 4 then
      if opQ op then .im2 (op.extractLsb' 5 1) else .im1 (op.extractLsb' 5 1)
    else .im0 (op.extractLsb' 5 1) (op.extractLsb' 3 1)
  | _ =>
    match opY op with
    | 0b000#3 => .ldIA
    | 0b001#3 => .ldRA
    | 0b010#3 => .ldAI
    | 0b011#3 => .ldAR
    | 0b100#3 => .rrd
    | 0b101#3 => .rld
    | _ => .nopEdSeven (op.extractLsb' 3 1)

/-- The block instructions `101rd0kk` of the `ED` table (43_block.md R700): `r` repeat, `d` direction, `kk` kind. -/
def decodeBlock (op : Byte) : Instr :=
  match opY op, op.extractLsb' 0 2 with
  | 0b100#3, 0b00#2 => .ldi
  | 0b100#3, 0b01#2 => .cpi
  | 0b100#3, 0b10#2 => .ini
  | 0b100#3, _ => .outi
  | 0b101#3, 0b00#2 => .ldd
  | 0b101#3, 0b01#2 => .cpd
  | 0b101#3, 0b10#2 => .ind
  | 0b101#3, _ => .outd
  | 0b110#3, 0b00#2 => .ldir
  | 0b110#3, 0b01#2 => .cpir
  | 0b110#3, 0b10#2 => .inir
  | 0b110#3, _ => .otir
  | _, 0b00#2 => .lddr
  | _, 0b01#2 => .cpdr
  | _, 0b10#2 => .indr
  | _, _ => .otdr

/-- The `ED` table (R322); its undefined entries are the 2-byte no-op (R307). -/
def decodeEd (op b2 b3 : Byte) : Instr :=
  match opX op with
  | 0b00#2 => .nopEdLow (op.extractLsb' 0 6)
  | 0b01#2 => decodeEd1 op b2 b3
  | 0b10#2 =>
    if op.getLsbD 5 then
      if op.getLsbD 2 then .nopEdBlock (op.extractLsb' 3 2) (op.extractLsb' 0 2) else decodeBlock op
    else .nopEdMid (op.extractLsb' 0 5)
  | _ => .nopEdHigh (op.extractLsb' 0 6)

/-- What a register code means under a prefix in an instruction with no memory operand (R305 item 3): a register,
an index half for 100 and 101, nothing for 110. -/
def underPrefix (v : BitVec 3) : Option (Reg8 ⊕ Half) :=
  match v with
  | 0b100#3 => some (.inr .high)
  | 0b101#3 => some (.inr .low)
  | _ => (Reg8.ofCode v).map .inl

/-- The quarter `00xxxxxx` of the `DD`/`FD` table (R323). -/
def decodeXy0 (x : Idx) (op b2 b3 : Byte) : Option Instr :=
  match opZ op with
  | 0b001#3 =>
    if opQ op then some (.addIdxPair x (.ofCode (opP op)))
    else if opP op == 0b10#2 then some (.ldIdxImm x (w16 b3 b2)) else none
  | 0b010#3 =>
    match opY op with
    | 0b100#3 => some (.ldMemNnIdx x (w16 b3 b2))
    | 0b101#3 => some (.ldIdxMemNn x (w16 b3 b2))
    | _ => none
  | 0b011#3 => if opP op == 0b10#2 then some (if opQ op then .decIdx x else .incIdx x) else none
  | 0b100#3 =>
    match opY op with
    | 0b100#3 => some (.incHalf x .high)
    | 0b101#3 => some (.incHalf x .low)
    | 0b110#3 => some (.incMemIdx x b2)
    | _ => none
  | 0b101#3 =>
    match opY op with
    | 0b100#3 => some (.decHalf x .high)
    | 0b101#3 => some (.decHalf x .low)
    | 0b110#3 => some (.decMemIdx x b2)
    | _ => none
  | 0b110#3 =>
    match opY op with
    | 0b100#3 => some (.ldHalfImm x .high b2)
    | 0b101#3 => some (.ldHalfImm x .low b2)
    | 0b110#3 => some (.ldMemIdxImm x b2 b3)
    | _ => none
  | _ => none

/-- The quarter `01xxxxxx` of the `DD`/`FD` table (R323, R305 items 1, 3 and 4): with a memory operand the codes
100 and 101 are H and L, without one they are the index halves. -/
def decodeXy1 (x : Idx) (op b2 : Byte) : Option Instr :=
  if opZ op == 0b110#3 then (Reg8.ofCode (opY op)).map fun r => .ldRegMemIdx x r b2
  else if opY op == 0b110#3 then (Reg8.ofCode (opZ op)).map fun r => .ldMemIdxReg x r b2
  else
    match underPrefix (opY op), underPrefix (opZ op) with
    | some (.inr h), some (.inr k) => some (.ldHalfHalf x h k)
    | some (.inr h), some (.inl r) => some (.ldHalfReg x h r)
    | some (.inl r), some (.inr h) => some (.ldRegHalf x r h)
    | _, _ => none

/-- The quarter `10xxxxxx` of the `DD`/`FD` table (R323). -/
def decodeXy2 (x : Idx) (op b2 : Byte) : Option Instr :=
  match opZ op with
  | 0b100#3 => some (decodeAluHalf (opY op) x .high)
  | 0b101#3 => some (decodeAluHalf (opY op) x .low)
  | 0b110#3 => some (decodeAluMemIdx (opY op) x b2)
  | _ => none

/-- The quarter `11xxxxxx` of the `DD`/`FD` table (R323): `E1`, `E3`, `E5`, `E9`, `F9`. -/
def decodeXy3 (x : Idx) (op : Byte) : Option Instr :=
  match op with
  | 0xE1#8 => some (.popIdx x)
  | 0xE3#8 => some (.exMemSpIdx x)
  | 0xE5#8 => some (.pushIdx x)
  | 0xE9#8 => some (.jpIdx x)
  | 0xF9#8 => some (.ldSpIdx x)
  | _ => none

/-- The `DD`/`FD` table (R323): `none` for the entries that fall back to the prefix no-op (R308). -/
def decodeXy (x : Idx) (op b2 b3 : Byte) : Option Instr :=
  match opX op with
  | 0b00#2 => decodeXy0 x op b2 b3
  | 0b01#2 => decodeXy1 x op b2
  | 0b10#2 => decodeXy2 x op b2
  | _ => decodeXy3 x op

/-- The `DD CB d op` and `FD CB d op` table (R324, R306). -/
def decodeXyCb (x : Idx) (d op : Byte) : Instr :=
  match opX op, Reg8.ofCode (opZ op) with
  | 0b00#2, some r => decodeRotMemIdxCopy (opY op) x d r
  | 0b00#2, none => decodeRotMemIdx (opY op) x d
  | 0b01#2, _ => .bitMemIdx x d (opY op) (opZ op)
  | 0b10#2, some r => .resMemIdxCopy x d (opY op) r
  | 0b10#2, none => .resMemIdx x d (opY op)
  | _, some r => .setMemIdxCopy x d (opY op) r
  | _, none => .setMemIdx x d (opY op)

/-- What a `DD` or `FD` byte and the bytes after it are (R302). -/
def decodePrefixed (x : Idx) (b1 b2 b3 : Byte) : Instr :=
  if b1 == 0xCB#8 then decodeXyCb x b2 b3 else (decodeXy x b1 b2 b3).getD (.nopPrefix x)

/-- The decision procedure of R302, total: the instruction that a window of four bytes begins with. A byte past
the instruction's length does not change what it is (log 14). -/
def decodeWindow (b0 b1 b2 b3 : Byte) : Instr :=
  match b0 with
  | 0xCB#8 => decodeCb b1
  | 0xED#8 => decodeEd b1 b2 b3
  | 0xDD#8 => decodePrefixed .ix b1 b2 b3
  | 0xFD#8 => decodePrefixed .iy b1 b2 b3
  | _ => decodePrimary b0 b1 b2

/-! ## Length -/

/-- The length in bytes (R300, R303): a function of the opcode bytes alone, the `length` column of the table. -/
def Instr.length : Instr → Nat
  | .nop | .ldMemBcA | .ldMemDeA | .incPair .. | .incReg .. | .incMemHl | .decReg .. | .decMemHl | .rlca
  | .rrca | .rla | .rra | .daa | .cpl | .scf | .ccf | .exAfAf | .addHlPair .. | .ldAMemBc | .ldAMemDe
  | .decPair .. | .ldRegReg .. | .ldRegMemHl .. | .ldMemHlReg .. | .halt | .addAReg .. | .addAMemHl
  | .adcAReg .. | .adcAMemHl | .subAReg .. | .subAMemHl | .sbcAReg .. | .sbcAMemHl | .andAReg .. | .andAMemHl
  | .xorAReg .. | .xorAMemHl | .orAReg .. | .orAMemHl | .cpAReg .. | .cpAMemHl | .retCond .. | .popPair ..
  | .exMemSpHl | .exDeHl | .di | .ei | .pushPair .. | .rst .. | .ret | .exx | .jpHl | .ldSpHl | .nopPrefix .. => 1
  | .ldRegImm .. | .ldMemHlImm .. | .djnz .. | .jr .. | .jrCond .. | .addAImm .. | .addAHalf .. | .adcAImm ..
  | .adcAHalf .. | .subAImm .. | .subAHalf .. | .sbcAImm .. | .sbcAHalf .. | .andAImm .. | .andAHalf ..
  | .xorAImm .. | .xorAHalf .. | .orAImm .. | .orAHalf .. | .cpAImm .. | .cpAHalf .. | .outImmA ..
  | .inAImm .. | .rlcReg .. | .rlcMemHl | .rrcReg .. | .rrcMemHl | .rlReg .. | .rlMemHl | .rrReg ..
  | .rrMemHl | .slaReg .. | .slaMemHl | .sraReg .. | .sraMemHl | .sllReg .. | .sllMemHl | .srlReg ..
  | .srlMemHl | .bitReg .. | .bitMemHl .. | .resReg .. | .resMemHl .. | .setReg .. | .setMemHl ..
  | .inRegC .. | .inFC | .outCReg .. | .outCZero | .sbcHlPair .. | .adcHlPair .. | .neg .. | .retn .. | .reti
  | .im0 .. | .im1 .. | .im2 .. | .ldIA | .ldRA | .ldAI | .ldAR | .rrd | .rld | .ldi | .cpi | .ini | .outi
  | .ldd | .cpd | .ind | .outd | .ldir | .cpir | .inir | .otir | .lddr | .cpdr | .indr | .otdr | .nopEdLow ..
  | .nopEdHigh .. | .nopEdMid .. | .nopEdBlock .. | .nopEdSeven .. | .addIdxPair .. | .incIdx ..
  | .incHalf .. | .decHalf .. | .decIdx .. | .ldRegHalf .. | .ldHalfReg .. | .ldHalfHalf .. | .popIdx ..
  | .exMemSpIdx .. | .pushIdx .. | .jpIdx .. | .ldSpIdx .. => 2
  | .ldPairImm .. | .ldMemNnHl .. | .ldMemNnA .. | .ldHlMemNn .. | .ldAMemNn .. | .addAMemIdx ..
  | .adcAMemIdx .. | .subAMemIdx .. | .sbcAMemIdx .. | .andAMemIdx .. | .xorAMemIdx .. | .orAMemIdx ..
  | .cpAMemIdx .. | .jpCond .. | .jp .. | .callCond .. | .call .. | .ldHalfImm .. | .incMemIdx ..
  | .decMemIdx .. | .ldRegMemIdx .. | .ldMemIdxReg .. => 3
  | .rlcMemIdx .. | .rlcMemIdxCopy .. | .rrcMemIdx .. | .rrcMemIdxCopy .. | .rlMemIdx .. | .rlMemIdxCopy ..
  | .rrMemIdx .. | .rrMemIdxCopy .. | .slaMemIdx .. | .slaMemIdxCopy .. | .sraMemIdx .. | .sraMemIdxCopy ..
  | .sllMemIdx .. | .sllMemIdxCopy .. | .srlMemIdx .. | .srlMemIdxCopy .. | .bitMemIdx .. | .resMemIdx ..
  | .resMemIdxCopy .. | .setMemIdx .. | .setMemIdxCopy .. | .ldMemNnPair .. | .ldPairMemNn .. | .ldIdxImm ..
  | .ldMemNnIdx .. | .ldIdxMemNn .. | .ldMemIdxImm .. => 4

/-! ## The encoder -/

/-- The bytes of an instruction in address order, each written as its row of spec/opcode_table.json writes it. -/
def encode : Instr → List Byte
  | .nop => [0b00000000#8]
  | .ldPairImm p nn => [(0b00#2 ++ p.code ++ 0b0001#4), lo nn, hi nn]
  | .ldMemBcA => [0b00000010#8]
  | .ldMemDeA => [0b00010010#8]
  | .ldMemNnHl nn => [0b00100010#8, lo nn, hi nn]
  | .ldMemNnA nn => [0b00110010#8, lo nn, hi nn]
  | .incPair p => [(0b00#2 ++ p.code ++ 0b0011#4)]
  | .incReg r => [(0b00#2 ++ r.code ++ 0b100#3)]
  | .incMemHl => [0b00110100#8]
  | .decReg r => [(0b00#2 ++ r.code ++ 0b101#3)]
  | .decMemHl => [0b00110101#8]
  | .ldRegImm r n => [(0b00#2 ++ r.code ++ 0b110#3), n]
  | .ldMemHlImm n => [0b00110110#8, n]
  | .rlca => [0b00000111#8]
  | .rrca => [0b00001111#8]
  | .rla => [0b00010111#8]
  | .rra => [0b00011111#8]
  | .daa => [0b00100111#8]
  | .cpl => [0b00101111#8]
  | .scf => [0b00110111#8]
  | .ccf => [0b00111111#8]
  | .exAfAf => [0b00001000#8]
  | .djnz e => [0b00010000#8, e]
  | .jr e => [0b00011000#8, e]
  | .jrCond cc e => [(0b001#3 ++ cc.code.setWidth 2 ++ 0b000#3), e]
  | .addHlPair p => [(0b00#2 ++ p.code ++ 0b1001#4)]
  | .ldAMemBc => [0b00001010#8]
  | .ldAMemDe => [0b00011010#8]
  | .ldHlMemNn nn => [0b00101010#8, lo nn, hi nn]
  | .ldAMemNn nn => [0b00111010#8, lo nn, hi nn]
  | .decPair p => [(0b00#2 ++ p.code ++ 0b1011#4)]
  | .ldRegReg r r2 => [(0b01#2 ++ r.code ++ r2.code)]
  | .ldRegMemHl r => [(0b01#2 ++ r.code ++ 0b110#3)]
  | .ldMemHlReg r => [(0b01110#5 ++ r.code)]
  | .halt => [0b01110110#8]
  | .addAReg r => [(0b10000#5 ++ r.code)]
  | .addAMemHl => [0b10000110#8]
  | .addAImm n => [0b11000110#8, n]
  | .addAMemIdx x d => [(0b11#2 ++ x.code ++ 0b11101#5), 0b10000110#8, d]
  | .addAHalf x h => [(0b11#2 ++ x.code ++ 0b11101#5), (0b1000010#7 ++ h.code)]
  | .adcAReg r => [(0b10001#5 ++ r.code)]
  | .adcAMemHl => [0b10001110#8]
  | .adcAImm n => [0b11001110#8, n]
  | .adcAMemIdx x d => [(0b11#2 ++ x.code ++ 0b11101#5), 0b10001110#8, d]
  | .adcAHalf x h => [(0b11#2 ++ x.code ++ 0b11101#5), (0b1000110#7 ++ h.code)]
  | .subAReg r => [(0b10010#5 ++ r.code)]
  | .subAMemHl => [0b10010110#8]
  | .subAImm n => [0b11010110#8, n]
  | .subAMemIdx x d => [(0b11#2 ++ x.code ++ 0b11101#5), 0b10010110#8, d]
  | .subAHalf x h => [(0b11#2 ++ x.code ++ 0b11101#5), (0b1001010#7 ++ h.code)]
  | .sbcAReg r => [(0b10011#5 ++ r.code)]
  | .sbcAMemHl => [0b10011110#8]
  | .sbcAImm n => [0b11011110#8, n]
  | .sbcAMemIdx x d => [(0b11#2 ++ x.code ++ 0b11101#5), 0b10011110#8, d]
  | .sbcAHalf x h => [(0b11#2 ++ x.code ++ 0b11101#5), (0b1001110#7 ++ h.code)]
  | .andAReg r => [(0b10100#5 ++ r.code)]
  | .andAMemHl => [0b10100110#8]
  | .andAImm n => [0b11100110#8, n]
  | .andAMemIdx x d => [(0b11#2 ++ x.code ++ 0b11101#5), 0b10100110#8, d]
  | .andAHalf x h => [(0b11#2 ++ x.code ++ 0b11101#5), (0b1010010#7 ++ h.code)]
  | .xorAReg r => [(0b10101#5 ++ r.code)]
  | .xorAMemHl => [0b10101110#8]
  | .xorAImm n => [0b11101110#8, n]
  | .xorAMemIdx x d => [(0b11#2 ++ x.code ++ 0b11101#5), 0b10101110#8, d]
  | .xorAHalf x h => [(0b11#2 ++ x.code ++ 0b11101#5), (0b1010110#7 ++ h.code)]
  | .orAReg r => [(0b10110#5 ++ r.code)]
  | .orAMemHl => [0b10110110#8]
  | .orAImm n => [0b11110110#8, n]
  | .orAMemIdx x d => [(0b11#2 ++ x.code ++ 0b11101#5), 0b10110110#8, d]
  | .orAHalf x h => [(0b11#2 ++ x.code ++ 0b11101#5), (0b1011010#7 ++ h.code)]
  | .cpAReg r => [(0b10111#5 ++ r.code)]
  | .cpAMemHl => [0b10111110#8]
  | .cpAImm n => [0b11111110#8, n]
  | .cpAMemIdx x d => [(0b11#2 ++ x.code ++ 0b11101#5), 0b10111110#8, d]
  | .cpAHalf x h => [(0b11#2 ++ x.code ++ 0b11101#5), (0b1011110#7 ++ h.code)]
  | .retCond cc => [(0b11#2 ++ cc.code ++ 0b000#3)]
  | .popPair q => [(0b11#2 ++ q.code ++ 0b0001#4)]
  | .jpCond cc nn => [(0b11#2 ++ cc.code ++ 0b010#3), lo nn, hi nn]
  | .jp nn => [0b11000011#8, lo nn, hi nn]
  | .outImmA n => [0b11010011#8, n]
  | .inAImm n => [0b11011011#8, n]
  | .exMemSpHl => [0b11100011#8]
  | .exDeHl => [0b11101011#8]
  | .di => [0b11110011#8]
  | .ei => [0b11111011#8]
  | .callCond cc nn => [(0b11#2 ++ cc.code ++ 0b100#3), lo nn, hi nn]
  | .pushPair q => [(0b11#2 ++ q.code ++ 0b0101#4)]
  | .call nn => [0b11001101#8, lo nn, hi nn]
  | .rst t => [(0b11#2 ++ t ++ 0b111#3)]
  | .ret => [0b11001001#8]
  | .exx => [0b11011001#8]
  | .jpHl => [0b11101001#8]
  | .ldSpHl => [0b11111001#8]
  | .rlcReg r => [0b11001011#8, (0b00000#5 ++ r.code)]
  | .rlcMemHl => [0b11001011#8, 0b00000110#8]
  | .rlcMemIdx x d => [(0b11#2 ++ x.code ++ 0b11101#5), 0b11001011#8, d, 0b00000110#8]
  | .rlcMemIdxCopy x d r => [(0b11#2 ++ x.code ++ 0b11101#5), 0b11001011#8, d, (0b00000#5 ++ r.code)]
  | .rrcReg r => [0b11001011#8, (0b00001#5 ++ r.code)]
  | .rrcMemHl => [0b11001011#8, 0b00001110#8]
  | .rrcMemIdx x d => [(0b11#2 ++ x.code ++ 0b11101#5), 0b11001011#8, d, 0b00001110#8]
  | .rrcMemIdxCopy x d r => [(0b11#2 ++ x.code ++ 0b11101#5), 0b11001011#8, d, (0b00001#5 ++ r.code)]
  | .rlReg r => [0b11001011#8, (0b00010#5 ++ r.code)]
  | .rlMemHl => [0b11001011#8, 0b00010110#8]
  | .rlMemIdx x d => [(0b11#2 ++ x.code ++ 0b11101#5), 0b11001011#8, d, 0b00010110#8]
  | .rlMemIdxCopy x d r => [(0b11#2 ++ x.code ++ 0b11101#5), 0b11001011#8, d, (0b00010#5 ++ r.code)]
  | .rrReg r => [0b11001011#8, (0b00011#5 ++ r.code)]
  | .rrMemHl => [0b11001011#8, 0b00011110#8]
  | .rrMemIdx x d => [(0b11#2 ++ x.code ++ 0b11101#5), 0b11001011#8, d, 0b00011110#8]
  | .rrMemIdxCopy x d r => [(0b11#2 ++ x.code ++ 0b11101#5), 0b11001011#8, d, (0b00011#5 ++ r.code)]
  | .slaReg r => [0b11001011#8, (0b00100#5 ++ r.code)]
  | .slaMemHl => [0b11001011#8, 0b00100110#8]
  | .slaMemIdx x d => [(0b11#2 ++ x.code ++ 0b11101#5), 0b11001011#8, d, 0b00100110#8]
  | .slaMemIdxCopy x d r => [(0b11#2 ++ x.code ++ 0b11101#5), 0b11001011#8, d, (0b00100#5 ++ r.code)]
  | .sraReg r => [0b11001011#8, (0b00101#5 ++ r.code)]
  | .sraMemHl => [0b11001011#8, 0b00101110#8]
  | .sraMemIdx x d => [(0b11#2 ++ x.code ++ 0b11101#5), 0b11001011#8, d, 0b00101110#8]
  | .sraMemIdxCopy x d r => [(0b11#2 ++ x.code ++ 0b11101#5), 0b11001011#8, d, (0b00101#5 ++ r.code)]
  | .sllReg r => [0b11001011#8, (0b00110#5 ++ r.code)]
  | .sllMemHl => [0b11001011#8, 0b00110110#8]
  | .sllMemIdx x d => [(0b11#2 ++ x.code ++ 0b11101#5), 0b11001011#8, d, 0b00110110#8]
  | .sllMemIdxCopy x d r => [(0b11#2 ++ x.code ++ 0b11101#5), 0b11001011#8, d, (0b00110#5 ++ r.code)]
  | .srlReg r => [0b11001011#8, (0b00111#5 ++ r.code)]
  | .srlMemHl => [0b11001011#8, 0b00111110#8]
  | .srlMemIdx x d => [(0b11#2 ++ x.code ++ 0b11101#5), 0b11001011#8, d, 0b00111110#8]
  | .srlMemIdxCopy x d r => [(0b11#2 ++ x.code ++ 0b11101#5), 0b11001011#8, d, (0b00111#5 ++ r.code)]
  | .bitReg b r => [0b11001011#8, (0b01#2 ++ b ++ r.code)]
  | .bitMemHl b => [0b11001011#8, (0b01#2 ++ b ++ 0b110#3)]
  | .bitMemIdx x d b z => [(0b11#2 ++ x.code ++ 0b11101#5), 0b11001011#8, d, (0b01#2 ++ b ++ z)]
  | .resReg b r => [0b11001011#8, (0b10#2 ++ b ++ r.code)]
  | .resMemHl b => [0b11001011#8, (0b10#2 ++ b ++ 0b110#3)]
  | .resMemIdx x d b => [(0b11#2 ++ x.code ++ 0b11101#5), 0b11001011#8, d, (0b10#2 ++ b ++ 0b110#3)]
  | .resMemIdxCopy x d b r => [(0b11#2 ++ x.code ++ 0b11101#5), 0b11001011#8, d, (0b10#2 ++ b ++ r.code)]
  | .setReg b r => [0b11001011#8, (0b11#2 ++ b ++ r.code)]
  | .setMemHl b => [0b11001011#8, (0b11#2 ++ b ++ 0b110#3)]
  | .setMemIdx x d b => [(0b11#2 ++ x.code ++ 0b11101#5), 0b11001011#8, d, (0b11#2 ++ b ++ 0b110#3)]
  | .setMemIdxCopy x d b r => [(0b11#2 ++ x.code ++ 0b11101#5), 0b11001011#8, d, (0b11#2 ++ b ++ r.code)]
  | .inRegC r => [0b11101101#8, (0b01#2 ++ r.code ++ 0b000#3)]
  | .inFC => [0b11101101#8, 0b01110000#8]
  | .outCReg r => [0b11101101#8, (0b01#2 ++ r.code ++ 0b001#3)]
  | .outCZero => [0b11101101#8, 0b01110001#8]
  | .sbcHlPair p => [0b11101101#8, (0b01#2 ++ p.code ++ 0b0010#4)]
  | .adcHlPair p => [0b11101101#8, (0b01#2 ++ p.code ++ 0b1010#4)]
  | .ldMemNnPair p nn => [0b11101101#8, (0b01#2 ++ p.code ++ 0b0011#4), lo nn, hi nn]
  | .ldPairMemNn p nn => [0b11101101#8, (0b01#2 ++ p.code ++ 0b1011#4), lo nn, hi nn]
  | .neg z => [0b11101101#8, (0b01#2 ++ z ++ 0b100#3)]
  | .retn z => [0b11101101#8, (0b01#2 ++ z ++ 0b101#3)]
  | .reti => [0b11101101#8, 0b01001101#8]
  | .im0 z z2 => [0b11101101#8, (0b01#2 ++ z ++ 0b0#1 ++ z2 ++ 0b110#3)]
  | .im1 z => [0b11101101#8, (0b01#2 ++ z ++ 0b10110#5)]
  | .im2 z => [0b11101101#8, (0b01#2 ++ z ++ 0b11110#5)]
  | .ldIA => [0b11101101#8, 0b01000111#8]
  | .ldRA => [0b11101101#8, 0b01001111#8]
  | .ldAI => [0b11101101#8, 0b01010111#8]
  | .ldAR => [0b11101101#8, 0b01011111#8]
  | .rrd => [0b11101101#8, 0b01100111#8]
  | .rld => [0b11101101#8, 0b01101111#8]
  | .ldi => [0b11101101#8, 0b10100000#8]
  | .cpi => [0b11101101#8, 0b10100001#8]
  | .ini => [0b11101101#8, 0b10100010#8]
  | .outi => [0b11101101#8, 0b10100011#8]
  | .ldd => [0b11101101#8, 0b10101000#8]
  | .cpd => [0b11101101#8, 0b10101001#8]
  | .ind => [0b11101101#8, 0b10101010#8]
  | .outd => [0b11101101#8, 0b10101011#8]
  | .ldir => [0b11101101#8, 0b10110000#8]
  | .cpir => [0b11101101#8, 0b10110001#8]
  | .inir => [0b11101101#8, 0b10110010#8]
  | .otir => [0b11101101#8, 0b10110011#8]
  | .lddr => [0b11101101#8, 0b10111000#8]
  | .cpdr => [0b11101101#8, 0b10111001#8]
  | .indr => [0b11101101#8, 0b10111010#8]
  | .otdr => [0b11101101#8, 0b10111011#8]
  | .nopEdLow z => [0b11101101#8, (0b00#2 ++ z)]
  | .nopEdHigh z => [0b11101101#8, (0b11#2 ++ z)]
  | .nopEdMid z => [0b11101101#8, (0b100#3 ++ z)]
  | .nopEdBlock z z2 => [0b11101101#8, (0b101#3 ++ z ++ 0b1#1 ++ z2)]
  | .nopEdSeven z => [0b11101101#8, (0b0111#4 ++ z ++ 0b111#3)]
  | .addIdxPair x p => [(0b11#2 ++ x.code ++ 0b11101#5), (0b00#2 ++ p.code ++ 0b1001#4)]
  | .ldIdxImm x nn => [(0b11#2 ++ x.code ++ 0b11101#5), 0b00100001#8, lo nn, hi nn]
  | .ldMemNnIdx x nn => [(0b11#2 ++ x.code ++ 0b11101#5), 0b00100010#8, lo nn, hi nn]
  | .incIdx x => [(0b11#2 ++ x.code ++ 0b11101#5), 0b00100011#8]
  | .incHalf x h => [(0b11#2 ++ x.code ++ 0b11101#5), (0b0010#4 ++ h.code ++ 0b100#3)]
  | .decHalf x h => [(0b11#2 ++ x.code ++ 0b11101#5), (0b0010#4 ++ h.code ++ 0b101#3)]
  | .ldHalfImm x h n => [(0b11#2 ++ x.code ++ 0b11101#5), (0b0010#4 ++ h.code ++ 0b110#3), n]
  | .ldIdxMemNn x nn => [(0b11#2 ++ x.code ++ 0b11101#5), 0b00101010#8, lo nn, hi nn]
  | .decIdx x => [(0b11#2 ++ x.code ++ 0b11101#5), 0b00101011#8]
  | .incMemIdx x d => [(0b11#2 ++ x.code ++ 0b11101#5), 0b00110100#8, d]
  | .decMemIdx x d => [(0b11#2 ++ x.code ++ 0b11101#5), 0b00110101#8, d]
  | .ldMemIdxImm x d n => [(0b11#2 ++ x.code ++ 0b11101#5), 0b00110110#8, d, n]
  | .ldRegHalf x r h => [(0b11#2 ++ x.code ++ 0b11101#5), (0b01#2 ++ r.code ++ 0b10#2 ++ h.code)]
  | .ldHalfReg x h r => [(0b11#2 ++ x.code ++ 0b11101#5), (0b0110#4 ++ h.code ++ r.code)]
  | .ldHalfHalf x h k => [(0b11#2 ++ x.code ++ 0b11101#5), (0b0110#4 ++ h.code ++ 0b10#2 ++ k.code)]
  | .ldRegMemIdx x r d => [(0b11#2 ++ x.code ++ 0b11101#5), (0b01#2 ++ r.code ++ 0b110#3), d]
  | .ldMemIdxReg x r d => [(0b11#2 ++ x.code ++ 0b11101#5), (0b01110#5 ++ r.code), d]
  | .popIdx x => [(0b11#2 ++ x.code ++ 0b11101#5), 0b11100001#8]
  | .exMemSpIdx x => [(0b11#2 ++ x.code ++ 0b11101#5), 0b11100011#8]
  | .pushIdx x => [(0b11#2 ++ x.code ++ 0b11101#5), 0b11100101#8]
  | .jpIdx x => [(0b11#2 ++ x.code ++ 0b11101#5), 0b11101001#8]
  | .ldSpIdx x => [(0b11#2 ++ x.code ++ 0b11101#5), 0b11111001#8]
  | .nopPrefix x => [(0b11#2 ++ x.code ++ 0b11101#5)]

/-! ## The decoder over a list of bytes -/

/-- Why a list of bytes is refused. No byte sequence is undefined (R307): a list can only be too short. -/
inductive DecodeError where
  /-- The list ends before the instruction does, or right after a `DD` or `FD` byte, which needs a look at the
  byte after it (R302). -/
  | truncated
  deriving DecidableEq, Repr

/-- How many bytes the decoder must see: the instruction, and for the prefix no-op the byte after it too. -/
def Instr.lookahead : Instr → Nat
  | .nopPrefix _ => 2
  | i => i.length

/-- The first instruction of a list of bytes and the bytes after it, or the refusal `truncated`. -/
def decode (bs : List Byte) : Except DecodeError (Instr × List Byte) :=
  let i := decodeWindow (bs.getD 0 0) (bs.getD 1 0) (bs.getD 2 0) (bs.getD 3 0)
  if i.lookahead ≤ bs.length then .ok (i, bs.drop i.length) else .error .truncated

/-- Whether the bytes `rest` may stand after `i` without changing what it is: only the prefix no-op looks at them,
and only at the first, which must not combine with it (R302, R308). -/
def Instr.standsBefore (i : Instr) (rest : List Byte) : Bool :=
  match i, rest with
  | .nopPrefix _, [] => false
  | .nopPrefix x, b :: _ => b != 0xCB#8 && (decodeXy x b 0 0).isNone
  | _, _ => true

/-! ## The numbering of spec/opcode_table.json

The table's `match`, `mask` and `fixed` read a row's bytes as ONE number whose most significant byte is the FIRST
byte of the instruction (row `LD_p_nn`: match 0x010000, fixed bits 23..16 are the opcode byte). Log 13. -/

/-- Byte `k` of the number `w`, counted from its least significant byte. -/
def byteOf (w k : Nat) : Byte := BitVec.ofNat 8 (w / 256 ^ k)

/-- The bytes of a row's word, first byte first, the first byte the most significant one (the table's numbering). -/
def tableBytesMsb (nbits w : Nat) : List Byte :=
  (List.range (nbits / 8)).map fun k => byteOf w (nbits / 8 - 1 - k)

/-- The same with the first byte the least significant one. -/
def tableBytesLsb (nbits w : Nat) : List Byte :=
  (List.range (nbits / 8)).map fun k => byteOf w k

/-- The instruction a list of bytes begins with, the bytes after its end zero. -/
def decodeZeroExtended (bs : List Byte) : Instr :=
  decodeWindow (bs.getD 0 0) (bs.getD 1 0) (bs.getD 2 0) (bs.getD 3 0)

/-- The bytes of a row's word in address order: the table's own numbering; where an instruction read so does not
have the row's length and one read from the least significant byte does, that one (log 13). -/
def tableBytes (nbits w : Nat) : List Byte :=
  if (decodeZeroExtended (tableBytesMsb nbits w)).length * 8 == nbits then tableBytesMsb nbits w
  else if (decodeZeroExtended (tableBytesLsb nbits w)).length * 8 == nbits then tableBytesLsb nbits w
  else tableBytesMsb nbits w

/-- The instruction the decoder reads from a row's word, the bytes after it zero. -/
def decodeTableWord (nbits w : Nat) : Option Instr :=
  match decode (tableBytes nbits w ++ [0, 0, 0, 0]) with
  | .ok (i, _) => some i
  | .error _ => none

end Sys2Proof
end

