-- ==== Sys2Proof/Machine/Fetch.lean ====
section
/-! DEFINITION. Fetching an instruction, what stands around it in a step (40_step_and_flags.md R401), and placing a
word where the next step fetches. -/

namespace Sys2Proof.Machine

/-- The instruction at the PC (30_encoding.md R302): four bytes are looked at, the first ones decide how many
belong to it (log 14). -/
def State.fetchInstr (s : State) : Instr := decodeWindow (s.fetch 0) (s.fetch 1) (s.fetch 2) (s.fetch 3)

/-- A step from what its instruction answered: the end of the step follows a next state. -/
def finish (r : Result) : Result :=
  match r with
  | .next t => .next t.endStep
  | .fault f => .fault f
  | .refused r => .refused r

/-- A step while halted (R405): the end of the step follows the halted step. -/
def haltedAnswer (s : State) : Result := .next s.haltedStep.endStep

/-- A step after a fatal fault returns at once with no state change (R409). -/
def stoppedAnswer (s : State) : Result := .next s

/-- A program's first bytes placed at the PC by the host, in a machine that is neither halted nor stopped, so that
the next step fetches them (log 16). -/
def State.placeAtPc (s : State) (bs : List Byte) : State :=
  let s1 := s.loadBytes (s.get .pc) bs
  { s1 with halted := false, fatal := none }

end Sys2Proof.Machine
end

