-- ==== Sys2Proof/Machine/Step.lean ====
section
/-! DEFINITION. One step of the machine (40_step_and_flags.md R401): a next state, never a fault or a refusal. -/

namespace Sys2Proof.Machine

/-- `step(irq)`, the input `irq` taken from the state's queue (log 3). -/
def step (s : State) : Host.Outcome State Fault Refusal :=
  if s.fatal.isSome then stoppedAnswer s
  else if s.halted then haltedAnswer s
  else finish (exec s.fetchInstr s)

/-- The state with an instruction's bits stored where the next step fetches, the bits above them zero up to the
longest instruction of four bytes. -/
def State.withFetchWord (s : State) (nbits w : Nat) : State :=
  s.placeAtPc ((tableBytes nbits w ++ [0, 0, 0, 0]).take 4)

end Sys2Proof.Machine
end

