-- ==== Sys2Proof/Machine/HostSurface.lean ====
section
/-! DEFINITION. What the host may do to the machine between steps: the state surface (10_state.md R120, R121,
60_exceptions.md R1424) and the reset (70_reset_and_hazards.md R1500). No step does any of it. -/

namespace Sys2Proof.Machine

/-- A write of the state surface (R120, D39), of memory (`MEM_INIT`, R10) or of a model input. -/
inductive HostWrite where
  | register (g : Reg16) (v : Word)
  | half (g : Reg16) (h : Half) (v : Byte)
  | iff1 (v : Bool)
  | iff2 (v : Bool)
  | im (v : BitVec 2)
  | halted (v : Bool)
  | intPending (v : Bool)
  | intDeadline (v : Nat)
  | intInhibit (v : Bool)
  | clock (v : Nat)
  | fatal (v : Option FatalKind)
  | memory (a : Word) (v : Byte)
  | irqs (v : List Bool)
  | portAnswers (v : List Byte)
  | parameters (v : Params)
  deriving DecidableEq, Repr

/-- The host's write made: the one named piece of state takes the value, any value (R120). -/
def State.hostWrite (s : State) (w : HostWrite) : State :=
  match w with
  | .register g v => s.set g v
  | .half g h v => s.setHalf g h v
  | .iff1 v => { s with iff1 := v }
  | .iff2 v => { s with iff2 := v }
  | .im v => { s with im := v }
  | .halted v => { s with halted := v }
  | .intPending v => { s with intPending := v }
  | .intDeadline v => { s with intDeadline := v }
  | .intInhibit v => { s with intInhibit := v }
  | .clock v => { s with clock := v }
  | .fatal v => { s with fatal := v }
  | .memory a v => { s with mem := Memory.write s.mem a.toNat v }
  | .irqs v => { s with irqQueue := v }
  | .portAnswers v => { s with portIn := v }
  | .parameters v => { s with params := v }

/-- The registers of the silicon profile (R140, R1502): AF and SP are 0xFFFF, PC, I and R are 0, the others are
free values of this reset (log 7). -/
def siliconRegs (draw : Nat) : Regs :=
  { af := 0xFFFF, sp := 0xFFFF, pc := 0, ir := 0
    bc := Config.siliconRegister draw 0
    de := Config.siliconRegister draw 1
    hl := Config.siliconRegister draw 2
    shAf := Config.siliconRegister draw 3
    shBc := Config.siliconRegister draw 4
    shDe := Config.siliconRegister draw 5
    shHl := Config.siliconRegister draw 6
    ix := Config.siliconRegister draw 7
    iy := Config.siliconRegister draw 8 }

/-- The registers a reset leaves (R140). -/
def resetRegs (p : ResetProfile) (draw : Nat) : Regs :=
  match p with
  | .allZero => Regs.zero
  | .silicon => siliconRegs draw

/-- Reset (R1500): the architectural state at its values; memory, the devices, the parameters and the inputs to come
are kept (log 6); a fatal fault is cleared; there is no report until a step has run (log 17). A silicon reset is one
draw. -/
def State.hostReset (s : State) : State :=
  { s with
    regs := resetRegs s.params.resetProfile s.draws
    iff1 := false
    iff2 := false
    im := 0
    intPending := false
    intDeadline := 0
    intInhibit := false
    halted := false
    clock := 0
    fatal := none
    draws := if s.params.resetProfile = .silicon then s.draws + 1 else s.draws
    report := none }

end Sys2Proof.Machine
end

