-- ==== Sys2Proof/Safety.lean ====
section
/-! DEFINITION. What counts as a safe run, and the terms the statements use: the invariant of the machine, what an
instruction changes and what it leaves alone. -/

namespace Sys2Proof.Machine

/-- The invariant of a safe run: memory is in its canonical form, the interrupt mode is legal (10_state.md R113),
`DAA` is total (R10) and no fatal fault has been raised (R118). -/
abbrev State.Inv (s : State) : Prop :=
  Memory.wf s.mem = true ∧ s.im ≠ 3#2 ∧ s.params.daaMode = .total ∧ s.fatal = none

/-- The step that follows executes an instruction. -/
abbrev State.Running (s : State) : Prop := s.fatal = none ∧ s.halted = false

/-- The eight flags of F by name, in the order of R107. -/
def FlagsAre (f : Byte) (S Z Y H X PV N C : Bool) : Prop :=
  f.getLsbD 7 = S ∧ f.getLsbD 6 = Z ∧ f.getLsbD 5 = Y ∧ f.getLsbD 4 = H ∧ f.getLsbD 3 = X ∧ f.getLsbD 2 = PV ∧
    f.getLsbD 1 = N ∧ f.getLsbD 0 = C

/-- Whether a sum or difference leaves the range of a signed byte (40_step_and_flags.md R425). -/
def outOf8 (n : Int) : Bool := decide (n < -128 ∨ 127 < n)

/-- Whether a sum or difference leaves the range of a signed word. -/
def outOf16 (n : Int) : Bool := decide (n < -32768 ∨ 32767 < n)

/-- R counted `k` refreshes: bits 6..0 modulo 128, bit 7 kept; I is unchanged (R404). -/
def Refreshed (s t : State) (k : Nat) : Prop :=
  t.i = s.i ∧ t.r.getLsbD 7 = s.r.getLsbD 7 ∧ t.r.toNat % 128 = (s.r.toNat + k) % 128

/-- No control state but the clock changed: the flip-flops, the mode, the request window, the EI delay, the halted
sub-state, the fatal marker, and the model's own parameters, inputs and draws. -/
def SameControl (s t : State) : Prop :=
  t.iff1 = s.iff1 ∧ t.iff2 = s.iff2 ∧ t.im = s.im ∧ t.intPending = s.intPending ∧ t.intDeadline = s.intDeadline ∧
    t.intInhibit = s.intInhibit ∧ t.halted = s.halted ∧ t.fatal = s.fatal ∧ t.params = s.params ∧
    t.irqQueue = s.irqQueue ∧ t.draws = s.draws

/-- No port was accessed. -/
def SamePorts (s t : State) : Prop := t.portIn = s.portIn ∧ t.portLog = s.portLog

/-- Every byte of memory reads as before. -/
def SameBytes (s t : State) : Prop := ∀ a, t.readByte a = s.readByte a

/-- Every register but those listed reads as before. -/
def SameRegs (s t : State) (but : List Reg16) : Prop := ∀ g, g ∉ but → t.get g = s.get g

/-- `reg8[r]` took the value, every other 8-bit register of the main set reads as before. -/
def PutReg8 (s t : State) (r : Reg8) (v : Byte) : Prop := t.reg8 r = v ∧ ∀ q, q ≠ r → t.reg8 q = s.reg8 q

/-- The same, and F reads as before. -/
def WroteReg8 (s t : State) (r : Reg8) (v : Byte) : Prop := PutReg8 s t r v ∧ t.f = s.f

/-- A half of an index register took the value, the other half reads as before. -/
def PutXh (s t : State) (x : Idx) (h : Half) (v : Byte) : Prop := t.xh x h = v ∧ ∀ k, k ≠ h → t.xh x k = s.xh x k

/-- One byte was stored at `a`, where the host lets it be written; every other byte reads as before. -/
def Stored (s t : State) (a : Word) (v : Byte) : Prop :=
  ∀ b, t.readByte b = if b = a ∧ Params.writable s.params a.toNat = true then v else s.readByte b

/-- A word was stored at `a`, low byte at `a`, high byte at `a + 1` modulo 2^16, each where the host lets it be
written; every other byte reads as before. -/
def StoredWord (s t : State) (a v : Word) : Prop :=
  ∀ b, t.readByte b =
    if b = a + 1 ∧ Params.writable s.params (a + 1).toNat = true then hi v
    else if b = a ∧ Params.writable s.params a.toNat = true then lo v else s.readByte b

/-- The word at an address, low byte first (20_memory.md R204). -/
def wordAt (s : State) (a : Word) : Word := w16 (s.readByte (a + 1)) (s.readByte a)

/-- `exec` runs the instruction from `s` to a next state with this PC, this clock charge and this many refreshes, the
control state that `c` has, no register changed but the PC, R and those listed, and the rest as `Q` says. -/
def RunsTo (i : Instr) (s c : State) (pc : Word) (cost k : Nat) (but : List Reg16) (Q : State → Prop) : Prop :=
  ∃ t, exec i s = .next t ∧ t.get .pc = pc ∧ t.clock = s.clock + cost ∧ Refreshed s t k ∧ SameControl c t ∧
    SameRegs s t (.pc :: .ir :: but) ∧ Q t

/-- The same with no control state changed. -/
def Runs (i : Instr) (s : State) (pc : Word) (cost k : Nat) (but : List Reg16) (Q : State → Prop) : Prop :=
  RunsTo i s s pc cost k but Q

/-- The same, to the address after the instruction's `len` bytes, with memory and ports left alone. -/
def RunsQuiet (i : Instr) (s : State) (len cost k : Nat) (but : List Reg16) (Q : State → Prop) : Prop :=
  Runs i s (s.get .pc + BitVec.ofNat 16 len) cost k but fun t => SameBytes s t ∧ SamePorts s t ∧ Q t

/-- The same, with one byte stored at `a`, no other byte changed and the ports left alone. -/
def RunsStoring (i : Instr) (s : State) (len cost k : Nat) (a : Word) (v : Byte) (but : List Reg16)
    (Q : State → Prop) : Prop :=
  Runs i s (s.get .pc + BitVec.ofNat 16 len) cost k but fun t => Stored s t a v ∧ SamePorts s t ∧ Q t

/-- The same, with one word stored at `a`. -/
def RunsStoringWord (i : Instr) (s : State) (len cost k : Nat) (a v : Word) (but : List Reg16)
    (Q : State → Prop) : Prop :=
  Runs i s (s.get .pc + BitVec.ofNat 16 len) cost k but fun t => StoredWord s t a v ∧ SamePorts s t ∧ Q t

/-- The five forms of an accumulator operation (44_alu8.md R800): each runs with its length, cost and refreshes, and
`P src` says what it does with its operand to A and F. -/
def AluForms (s : State) (P : Byte → State → Prop) (reg : Reg8 → Instr) (memHl : Instr) (imm : Byte → Instr)
    (memIdx : Idx → Byte → Instr) (half : Idx → Half → Instr) : Prop :=
  (∀ r, RunsQuiet (reg r) s 1 4 1 [.af] (P (s.reg8 r))) ∧
  RunsQuiet memHl s 1 7 1 [.af] (P (s.readByte (s.get .hl))) ∧
  (∀ n, RunsQuiet (imm n) s 2 7 1 [.af] (P n)) ∧
  (∀ x d, RunsQuiet (memIdx x d) s 3 19 2 [.af] (P (s.readByte (s.get (idxReg x) + sext16 d)))) ∧
  ∀ x h, RunsQuiet (half x h) s 2 8 2 [.af] (P (s.xh x h))

/-- A and F after the addition of `v` and a carry (R410, R425). -/
def Added (s : State) (c : Bool) (v : Byte) (t : State) : Prop :=
  t.a.toNat = (s.a.toNat + v.toNat + c.toNat) % 256 ∧
  FlagsAre t.f (t.a.getLsbD 7) (t.a == 0) (t.a.getLsbD 5) (decide (16 ≤ s.a.toNat % 16 + v.toNat % 16 + c.toNat))
    (t.a.getLsbD 3) (outOf8 (s.a.toInt + v.toInt + c.toNat)) false (decide (256 ≤ s.a.toNat + v.toNat + c.toNat))

/-- A and F after the subtraction of `v` and a borrow from `m` (R411, R425). -/
def Subtracted (m : Byte) (c : Bool) (v : Byte) (t : State) : Prop :=
  t.a.toNat = (m.toNat + 512 - v.toNat - c.toNat) % 256 ∧
  FlagsAre t.f (t.a.getLsbD 7) (t.a == 0) (t.a.getLsbD 5) (decide (m.toNat % 16 < v.toNat % 16 + c.toNat))
    (t.a.getLsbD 3) (outOf8 (m.toInt - v.toInt - c.toNat)) true (decide (m.toNat < v.toNat + c.toNat))

/-- F after the comparison with `v`, A unchanged: Y and X are the operand's (R412). -/
def Compared (s : State) (v : Byte) (t : State) : Prop :=
  t.a = s.a ∧
  FlagsAre t.f ((s.a - v).getLsbD 7) (s.a == v) (v.getLsbD 5) (decide (s.a.toNat % 16 < v.toNat % 16))
    (v.getLsbD 3) (outOf8 (s.a.toInt - v.toInt)) true (decide (s.a.toNat < v.toNat))

/-- A and F after a logical operation with the result `res` (R413). -/
def LogicResult (res : Byte) (h : Bool) (t : State) : Prop :=
  t.a = res ∧
  FlagsAre t.f (res.getLsbD 7) (res == 0) (res.getLsbD 5) h (res.getLsbD 3) (parity res) false false

/-- F after an 8-bit increment of `v` (R414). -/
def IncFlags (s : State) (v : Byte) (t : State) : Prop :=
  FlagsAre t.f ((v + 1).getLsbD 7) (v + 1 == 0) ((v + 1).getLsbD 5) (decide (v.toNat % 16 = 15))
    ((v + 1).getLsbD 3) (outOf8 (v.toInt + 1)) false (s.f.getLsbD 0)

/-- F after an 8-bit decrement of `v` (R415). -/
def DecFlags (s : State) (v : Byte) (t : State) : Prop :=
  FlagsAre t.f ((v - 1).getLsbD 7) (v - 1 == 0) ((v - 1).getLsbD 5) (decide (v.toNat % 16 = 0))
    ((v - 1).getLsbD 3) (outOf8 (v.toInt - 1)) true (s.f.getLsbD 0)

/-- The byte a rotate or shift makes, as a number (R420). -/
def rotated (op : RotOp) (v c : Nat) : Nat :=
  match op with
  | .rlc => 2 * v % 256 + v / 128
  | .rrc => v / 2 + 128 * (v % 2)
  | .rl => 2 * v % 256 + c
  | .rr => v / 2 + 128 * c
  | .sla => 2 * v % 256
  | .sra => v / 2 + 128 * (v / 128)
  | .sll => 2 * v % 256 + 1
  | .srl => v / 2

/-- Whether a rotate or shift moves bit 7 out; the others move bit 0 out (R420). -/
def movesLeft (op : RotOp) : Bool :=
  match op with
  | .rlc | .rl | .sla | .sll => true
  | .rrc | .rr | .sra | .srl => false

/-- The byte, as a byte. -/
def rotatedByte (op : RotOp) (s : State) (v : Byte) : Byte :=
  BitVec.ofNat 8 (rotated op v.toNat (s.f.getLsbD 0).toNat)

/-- The bit that leaves. -/
def rotatedOut (op : RotOp) (v : Byte) : Bool := if movesLeft op then v.getLsbD 7 else v.getLsbD 0

/-- F after a rotate or shift of the `CB` tables (R421). -/
def RotFlags (op : RotOp) (s : State) (v : Byte) (t : State) : Prop :=
  let w := rotatedByte op s v
  FlagsAre t.f (w.getLsbD 7) (w == 0) (w.getLsbD 5) false (w.getLsbD 3) (parity w) false (rotatedOut op v)

/-- A and F after an accumulator rotate (R422). -/
def RotatedA (op : RotOp) (s t : State) : Prop :=
  t.a = rotatedByte op s s.a ∧
  FlagsAre t.f (s.f.getLsbD 7) (s.f.getLsbD 6) (t.a.getLsbD 5) false (t.a.getLsbD 3) (s.f.getLsbD 2) false
    (rotatedOut op s.a)

/-- The four forms of a rotate or shift (46_rotate_bit.md R1010). -/
def RotForms (s : State) (op : RotOp) (reg : Reg8 → Instr) (memHl : Instr) (memIdx : Idx → Byte → Instr)
    (copy : Idx → Byte → Reg8 → Instr) : Prop :=
  (∀ r, RunsQuiet (reg r) s 2 8 2 [.af, .bc, .de, .hl] fun t =>
    PutReg8 s t r (rotatedByte op s (s.reg8 r)) ∧ RotFlags op s (s.reg8 r) t) ∧
  (RunsStoring memHl s 2 15 2 (s.get .hl) (rotatedByte op s (s.readByte (s.get .hl))) [.af] fun t =>
    t.a = s.a ∧ RotFlags op s (s.readByte (s.get .hl)) t) ∧
  (∀ x d, let a := s.get (idxReg x) + sext16 d
    RunsStoring (memIdx x d) s 4 23 2 a (rotatedByte op s (s.readByte a)) [.af] fun t =>
      t.a = s.a ∧ RotFlags op s (s.readByte a) t) ∧
  ∀ x d r, let a := s.get (idxReg x) + sext16 d
    RunsStoring (copy x d r) s 4 23 2 a (rotatedByte op s (s.readByte a)) [.af, .bc, .de, .hl] fun t =>
      PutReg8 s t r (rotatedByte op s (s.readByte a)) ∧ RotFlags op s (s.readByte a) t

/-- The four forms of `RES` or `SET`: no flag changes (R1023, R1024). -/
def BitForms (s : State) (g : BitVec 3 → Byte → Byte) (reg : BitVec 3 → Reg8 → Instr) (memHl : BitVec 3 → Instr)
    (memIdx : Idx → Byte → BitVec 3 → Instr) (copy : Idx → Byte → BitVec 3 → Reg8 → Instr) : Prop :=
  (∀ b r, RunsQuiet (reg b r) s 2 8 2 [.af, .bc, .de, .hl] fun t => WroteReg8 s t r (g b (s.reg8 r))) ∧
  (∀ b, RunsStoring (memHl b) s 2 15 2 (s.get .hl) (g b (s.readByte (s.get .hl))) [] fun _ => True) ∧
  (∀ x d b, let a := s.get (idxReg x) + sext16 d
    RunsStoring (memIdx x d b) s 4 23 2 a (g b (s.readByte a)) [] fun _ => True) ∧
  ∀ x d b r, let a := s.get (idxReg x) + sext16 d
    RunsStoring (copy x d b r) s 4 23 2 a (g b (s.readByte a)) [.af, .bc, .de, .hl] fun t =>
      WroteReg8 s t r (g b (s.readByte a))

/-- F after a `BIT` of bit `b` of `v`, with these Y and X (R1019). -/
def BitFlags (s : State) (b : BitVec 3) (v : Byte) (Y X : Bool) (t : State) : Prop :=
  t.a = s.a ∧
  FlagsAre t.f (decide (b.toNat = 7) && v.getLsbD 7) (!v.getLsbD b.toNat) Y true X (!v.getLsbD b.toNat) false
    (s.f.getLsbD 0)

/-- HL and F after a 16-bit addition without carry (R416). -/
def Added16 (s : State) (g : Reg16) (v : Word) (t : State) : Prop :=
  (t.get g).toNat = ((s.get g).toNat + v.toNat) % 65536 ∧ t.a = s.a ∧
  FlagsAre t.f (s.f.getLsbD 7) (s.f.getLsbD 6) ((t.get g).getLsbD 13)
    (decide (4096 ≤ (s.get g).toNat % 4096 + v.toNat % 4096)) ((t.get g).getLsbD 11) (s.f.getLsbD 2) false
    (decide (65536 ≤ (s.get g).toNat + v.toNat))

/-- HL and F after a 16-bit addition with carry (R417). -/
def AddedCarry16 (s : State) (v : Word) (t : State) : Prop :=
  let c := (s.f.getLsbD 0).toNat
  let h := s.get .hl
  (t.get .hl).toNat = (h.toNat + v.toNat + c) % 65536 ∧ t.a = s.a ∧
  FlagsAre t.f ((t.get .hl).getLsbD 15) (t.get .hl == 0) ((t.get .hl).getLsbD 13)
    (decide (4096 ≤ h.toNat % 4096 + v.toNat % 4096 + c)) ((t.get .hl).getLsbD 11)
    (outOf16 (h.toInt + v.toInt + c)) false (decide (65536 ≤ h.toNat + v.toNat + c))

/-- HL and F after a 16-bit subtraction with borrow (R418). -/
def SubtractedCarry16 (s : State) (v : Word) (t : State) : Prop :=
  let c := (s.f.getLsbD 0).toNat
  let h := s.get .hl
  (t.get .hl).toNat = (h.toNat + 131072 - v.toNat - c) % 65536 ∧ t.a = s.a ∧
  FlagsAre t.f ((t.get .hl).getLsbD 15) (t.get .hl == 0) ((t.get .hl).getLsbD 13)
    (decide (h.toNat % 4096 < v.toNat % 4096 + c)) ((t.get .hl).getLsbD 11)
    (outOf16 (h.toInt - v.toInt - c)) true (decide (h.toNat < v.toNat + c))

/-- One unit of a block load, the pointers stepped by `step` (43_block.md R701, R702). -/
def MovedUnit (s : State) (step : Word) (t : State) : Prop :=
  let v := s.readByte (s.get .hl)
  Stored s t (s.get .de) v ∧ SamePorts s t ∧ t.get .hl = s.get .hl + step ∧ t.get .de = s.get .de + step ∧
  t.get .bc = s.get .bc - 1 ∧ t.a = s.a ∧
  FlagsAre t.f (s.f.getLsbD 7) (s.f.getLsbD 6) ((v + s.a).getLsbD 1) false ((v + s.a).getLsbD 3)
    (decide (s.get .bc ≠ 1)) false (s.f.getLsbD 0)

/-- One unit of a block compare, the pointer stepped by `step` (R705, R706). -/
def ComparedUnit (s : State) (step : Word) (t : State) : Prop :=
  let v := s.readByte (s.get .hl)
  let h := decide (s.a.toNat % 16 < v.toNat % 16)
  let n := s.a - v - BitVec.ofNat 8 h.toNat
  SameBytes s t ∧ SamePorts s t ∧ t.get .hl = s.get .hl + step ∧ t.get .bc = s.get .bc - 1 ∧ t.a = s.a ∧
  FlagsAre t.f ((s.a - v).getLsbD 7) (s.a == v) (n.getLsbD 1) h (n.getLsbD 3) (decide (s.get .bc ≠ 1)) true
    (s.f.getLsbD 0)

/-- F after a unit of a block input or output: `v` the byte moved, `b` the new B, `k` the sum of R709 and R713. -/
def BlockIoFlags (v b : Byte) (k : Nat) (t : State) : Prop :=
  FlagsAre t.f (b.getLsbD 7) (b == 0) (b.getLsbD 5) (decide (255 < k)) (b.getLsbD 3)
    (parity (BitVec.ofNat 8 (k % 8) ^^^ b)) (v.getLsbD 7) (decide (255 < k))

/-- One unit of a block input, HL stepped by `step`, C adjusted by `adj` in the flags (R709, R710). -/
def InputUnit (s : State) (step : Word) (adj : Byte) (t : State) : Prop :=
  let v := s.portValue (s.reg8 .c) (s.reg8 .b)
  Stored s t (s.get .hl) v ∧ t.portIn = s.portIn.tail ∧
  t.portLog = .read (s.reg8 .c) (s.reg8 .b) v :: s.portLog ∧ t.get .hl = s.get .hl + step ∧
  t.reg8 .b = s.reg8 .b - 1 ∧ t.reg8 .c = s.reg8 .c ∧ t.a = s.a ∧
  BlockIoFlags v (s.reg8 .b - 1) (v.toNat + (s.reg8 .c + adj).toNat) t

/-- One unit of a block output, HL stepped by `step` (R713, R714). -/
def OutputUnit (s : State) (step : Word) (t : State) : Prop :=
  let v := s.readByte (s.get .hl)
  SameBytes s t ∧ t.portIn = s.portIn ∧
  t.portLog = .write (s.reg8 .c) (s.reg8 .b - 1) v :: s.portLog ∧ t.get .hl = s.get .hl + step ∧
  t.reg8 .b = s.reg8 .b - 1 ∧ t.reg8 .c = s.reg8 .c ∧ t.a = s.a ∧
  BlockIoFlags v (s.reg8 .b - 1) (v.toNat + (lo (s.get .hl + step)).toNat) t

/-- A block instruction: the unit is done; where it repeats, the PC stays at the instruction and 21 T-states are
charged, else the PC moves past its two bytes and 16 are (R700). -/
def BlockRuns (i : Instr) (s : State) (repeats : Bool) (but : List Reg16) (Q : State → Prop) : Prop :=
  Runs i s (if repeats then s.get .pc else s.get .pc + 2) (if repeats then 21 else 16) 2 but Q

/-- What an acceptance does, from the state `s` whose PC is pushed (60_exceptions.md R1406, R1407): the handler at
`target` is entered after `cost` T-states. -/
def Accepted (s t : State) (target : Word) (cost : Nat) : Prop :=
  t.get .pc = target ∧ t.get .sp = s.get .sp - 2 ∧ StoredWord s t (s.get .sp - 2) (s.get .pc) ∧
  t.clock = s.clock + cost ∧ Refreshed s t 1 ∧ SameRegs s t [.pc, .sp, .ir] ∧ SamePorts s t ∧
  t.iff1 = false ∧ t.iff2 = false ∧ t.intPending = false ∧ t.halted = false ∧ t.intInhibit = false ∧ t.im = s.im ∧
  t.intDeadline = s.intDeadline ∧ t.fatal = s.fatal ∧ t.params = s.params ∧ t.irqQueue = s.irqQueue ∧ t.draws = s.draws ∧
  t.report = s.report

/-- The instructions that can complete Repeat or RepeatSlow: the jumps, calls, returns and restarts, and the block
instructions that repeat (40_step_and_flags.md R402, 92_eei_decisions.md D34). -/
def MayRepeat (i : Instr) : Prop :=
  i ∈ [.jpHl, .ret, .reti, .ldir, .lddr, .cpir, .cpdr, .inir, .indr, .otir, .otdr] ∨
  (∃ nn, i = .jp nn ∨ i = .call nn) ∨ (∃ cc nn, i = .jpCond cc nn ∨ i = .callCond cc nn) ∨
  (∃ e, i = .jr e ∨ i = .djnz e) ∨ (∃ cc e, i = .jrCond cc e) ∨ (∃ cc, i = .retCond cc) ∨ (∃ x, i = .jpIdx x) ∨
  ∃ z, i = .retn z ∨ i = .rst z

/-- `DAA` runs here with no row of the table to follow under DAA_MODE = strict (60_exceptions.md R1410). -/
abbrev strictDaaFails (i : Instr) (s : State) : Prop :=
  i = .daa ∧ s.params.daaMode = .strict ∧ daaInTable s.a s.f = false

/-- An instruction run `n` times by `exec`, each time from the state the last left. -/
def execTimes (i : Instr) (n : Nat) (s : State) : Result :=
  match n with
  | 0 => .next s
  | n + 1 =>
    match exec i s with
    | .next t => execTimes i n t
    | .fault f => .fault f
    | .refused r => .refused r

end Sys2Proof.Machine
end

