-- ==== Sys2Proof/Certificates/Slice0/Obligations.lean ====
section
/-! DEFINITION. The statements about the model. Every statement names the rule of spec/ it rests on; the terms
(`RunsQuiet`, `Stored`, `FlagsAre`, …) are those of Safety.lean. The T-state numbers, the encodings and most flag
formulas are marked in the spec as general knowledge, the rules marked D<n> as its own decisions. -/

open Sys2Proof
open Sys2Proof.Machine

/-! ## Encoding -/

/-- Words written out from 30_encoding.md decode to the instructions they stand for. -/
def Obligations.SampleWordsDecode : Prop :=
  decode [0x78#8] = .ok (.ldRegReg .a .b, []) ∧
  decode [0x21#8, 0x34#8, 0x12#8] = .ok (.ldPairImm .hl 0x1234#16, []) ∧
  decode [0x38#8, 0x80#8] = .ok (.jrCond .c 0x80#8, []) ∧
  decode [0xCB#8, 0x7E#8] = .ok (.bitMemHl 7#3, []) ∧
  decode [0xED#8, 0xB0#8] = .ok (.ldir, []) ∧
  decode [0xED#8, 0x43#8, 0x10#8, 0x80#8] = .ok (.ldMemNnPair .bc 0x8010#16, []) ∧
  decode [0xDD#8, 0x36#8, 0x02#8, 0xAA#8] = .ok (.ldMemIdxImm .ix 0x02#8 0xAA#8, []) ∧
  decode [0xFD#8, 0xCB#8, 0xFF#8, 0x00#8] = .ok (.rlcMemIdxCopy .iy 0xFF#8 .b, []) ∧
  decode [0xDD#8, 0x00#8] = .ok (.nopPrefix .ix, [0x00#8])

/-- The decoder reads the encoder's bytes back, whatever bytes follow; after the prefix no-op only bytes that do not
combine with it may follow (30_encoding.md R302, R308). -/
def Obligations.DecodeReadsBackEncode : Prop :=
  ∀ (i : Instr) (rest : List Byte), i.wellFormed = true → i.standsBefore rest = true →
    decode (encode i ++ rest) = .ok (i, rest)

/-- Any four bytes begin with exactly one instruction, and its encoding is those bytes: decoding never fails and drops
no bit (30_encoding.md R302, R303, R307, R308). -/
def Obligations.EveryByteSequenceDecodes : Prop :=
  ∀ bs : List Byte, 4 ≤ bs.length →
    ∃ i rest, decode bs = .ok (i, rest) ∧ i.wellFormed = true ∧ encode i ++ rest = bs ∧
      1 ≤ i.length ∧ i.length ≤ 4 ∧ (encode i).length = i.length

/-! ## The step -/

/-- A step runs the instruction the bytes at the PC decode to, then ends: a request is recorded and the interrupt
check runs (40_step_and_flags.md R401, 60_exceptions.md R1402, R1403). That the step's input is the head of a queue in
the state is the model's choice (log 3). -/
def Obligations.StepRunsDecodedInstruction : Prop :=
  ∀ (s : State) (i : Instr) (rest : List Byte), s.Running →
    decode [s.readByte (s.get .pc), s.readByte (s.get .pc + 1), s.readByte (s.get .pc + 2),
      s.readByte (s.get .pc + 3)] = .ok (i, rest) →
    ∃ t, exec i s = .next t ∧ step s = .next t.endStep ∧
      (t.fatal = none → t.endStep =
        (State.recordRequest { t with irqQueue := t.irqQueue.tail } (t.irqQueue.headD false)).interruptCheck) ∧
      (t.fatal ≠ none → t.endStep = { t with irqQueue := t.irqQueue.tail })

/-- Only `HALT` enters the halted sub-state (10_state.md R116). A halted step keeps the PC, costs 4 T-states and one
refresh (40_step_and_flags.md R405, decision D9), and the interrupt check still runs at its end; only an acceptance, which
pushes the PC and clears both flip-flops (60_exceptions.md R1406), ends the sub-state, so with IFF1 = 0 it lasts. That
the request of the step is the head of `irqQueue` is the model's choice (log 3). -/
def Obligations.HaltedSubstate : Prop :=
  (∀ (i : Instr) (s t : State), exec i s = .next t → (t.halted = true ↔ s.halted = true ∨ i = .halt)) ∧
  ∀ s t : State, s.fatal = none → s.halted = true → step s = .next t →
    t = (State.recordRequest { s.haltedStep with irqQueue := s.irqQueue.tail }
      (s.irqQueue.headD false)).interruptCheck ∧
    (t.halted = true → t.get .pc = s.get .pc ∧ t.clock = s.clock + 4 ∧ Refreshed s t 1 ∧ SameRegs s t [.ir] ∧
      SameBytes s t ∧ SamePorts s t) ∧
    (t.halted = false → s.iff1 = true ∧ t.iff1 = false ∧ t.iff2 = false ∧ t.intPending = false ∧
      t.get .sp = s.get .sp - 2 ∧ StoredWord s t (s.get .sp - 2) (s.get .pc))

/-- After a fatal fault a step changes nothing (R409, D25); the model's choice is that it answers the same state again
(log 9). -/
def Obligations.FatalStateStays : Prop :=
  ∀ s : State, s.fatal ≠ none → step s = .next s

/-- No instruction and no step ends abnormally but by the two fatal faults (60_exceptions.md R1400, R1410): the strict
`DAA` on an input outside its table, and in a step also the dispatch of an interrupt with IM = 3. That a fault is recorded
in the fatal marker of a next state, and that every step, also one from a fatal state, answers a next state, is the
model's choice of form (log 9). -/
def Obligations.NoSynchronousException : Prop :=
  (∀ (i : Instr) (s : State), ∃ t, exec i s = .next t ∧
    (t.fatal = s.fatal ∨ strictDaaFails i s ∧ t.fatal = some .daaOutOfTable)) ∧
  (∀ s : State, ∃ t, step s = .next t ∧
    (t.fatal = s.fatal ∨ t.im = 3#2 ∧ t.fatal = some .badInterruptMode ∨
      strictDaaFails s.fetchInstr s ∧ t.fatal = some .daaOutOfTable))

/-- The clock never decreases, and every step that ends without a fatal fault advances it by at least the cost of a
no-op and at most the longest instruction and the dearest acceptance together (R117, R401, R1407). -/
def Obligations.ClockAdvances : Prop :=
  ∀ s t : State, step s = .next t →
    s.clock ≤ t.clock ∧ (t.fatal = none → s.clock + 4 ≤ t.clock) ∧ t.clock ≤ s.clock + 42

/-- The reset state (10_state.md R140, decision D3; 70_reset_and_hazards.md R1501): every register 0, interrupts
disabled, mode 0, not halted, no fatal fault. -/
def Obligations.ResetState : Prop :=
  (∀ g, State.reset.get g = 0#16) ∧ State.reset.iff1 = false ∧ State.reset.iff2 = false ∧ State.reset.im = 0#2 ∧
  State.reset.intPending = false ∧ State.reset.intDeadline = 0 ∧ State.reset.intInhibit = false ∧
  State.reset.halted = false ∧ State.reset.clock = 0 ∧ State.reset.fatal = none

/-- The invariant holds right after reset. The mode is R140's. That memory is canonical, with nothing listed, is the
model's choice (log 5: a reset leaves memory to the host), and that `State.reset` holds the total `DAA` is the spec's own
decision D26, held in State by the model's choice (log 4). -/
def Obligations.ResetMeetsInvariant : Prop := State.reset.Inv

/-- Every step keeps the invariant: memory stays canonical, the interrupt mode legal, `DAA` total, no fatal fault. -/
def Obligations.StepKeepsInvariant : Prop :=
  ∀ s t : State, s.Inv → step s = .next t → t.Inv

/-- R1411: where the mode is legal and `DAA` is total, no step leads to a fatal fault, and no step makes the mode illegal
or changes a parameter. -/
def Obligations.NoProgramReachesAFatalFault : Prop :=
  ∀ s t : State, s.im ≠ 3#2 → s.params.daaMode = .total → s.fatal = none → step s = .next t →
    t.fatal = none ∧ t.im ≠ 3#2 ∧ t.params = s.params

/-! ## Who writes and reads a piece of state -/

/-- R103: `EX AF,AF'` and `EXX` exchange the shadow set wholesale, `EXX` not AF; no other instruction writes a shadow
register or lets one change anything it does. -/
def Obligations.ShadowSetOnlyExchanged : Prop :=
  (∀ s, RunsQuiet .exAfAf s 1 4 1 [.af, .shAf] fun t => t.get .af = s.get .shAf ∧ t.get .shAf = s.get .af) ∧
  (∀ s, RunsQuiet .exx s 1 4 1 [.bc, .de, .hl, .shBc, .shDe, .shHl] fun t =>
    t.get .bc = s.get .shBc ∧ t.get .shBc = s.get .bc ∧ t.get .de = s.get .shDe ∧ t.get .shDe = s.get .de ∧
    t.get .hl = s.get .shHl ∧ t.get .shHl = s.get .hl) ∧
  ∀ (i : Instr) (s t : State), i ≠ .exAfAf → i ≠ .exx → exec i s = .next t →
    ∀ g ∈ [Reg16.shAf, .shBc, .shDe, .shHl],
      t.get g = s.get g ∧ ∀ w, exec i (s.set g w) = .next (t.set g w)

/-- R110: I is written only by `LD I,A`, and only `LD A,I` and the acceptance in mode 2 read it, as the high byte of
the vector's address. -/
def Obligations.InterruptVectorRegister : Prop :=
  (∀ s : State, ∃ t, exec .ldIA s = .next t ∧ t.i = s.a) ∧
  (∀ s : State, ∃ t, exec .ldAI s = .next t ∧ t.a = s.i) ∧
  (∀ (i : Instr) (s t : State), i ≠ .ldIA → exec i s = .next t →
    t.i = s.i ∧ (i ≠ .ldAI → ∀ v, exec i (s.setHi .ir v) = .next (t.setHi .ir v))) ∧
  (∀ s : State, s.interruptCheck.i = s.i) ∧
  (∀ s : State, s.im ≠ 2#2 → ∀ v, (s.setHi .ir v).interruptCheck = s.interruptCheck.setHi .ir v) ∧
  ∀ s : State, s.intPending = true → s.clock < s.intDeadline → s.iff1 = true → s.intInhibit = false → s.im = 2#2 →
    s.interruptCheck.get .pc = wordAt s.interruptCheck (w16 s.i 0xFF#8)

/-- The refresh never changes bit 7 of R: only `LD R,A` does (R111, R404, D16). -/
def Obligations.RefreshKeepsBitSeven : Prop :=
  (∀ (i : Instr) (s t : State), i ≠ .ldRA → exec i s = .next t → t.r.getLsbD 7 = s.r.getLsbD 7) ∧
  ∀ s t : State, s.fetchInstr ≠ .ldRA → step s = .next t → t.r.getLsbD 7 = s.r.getLsbD 7

/-- The writers of IFF1, IFF2 and IM among the instructions (R112, R113). -/
def Obligations.FlipFlopAndModeWriters : Prop :=
  (∀ (i : Instr) (s t : State), exec i s = .next t →
    ((∀ z, i ≠ .retn z) ∧ i ≠ .reti ∧ i ≠ .di ∧ i ≠ .ei → t.iff1 = s.iff1) ∧
    (i ≠ .di ∧ i ≠ .ei → t.iff2 = s.iff2) ∧
    ((∀ y z, i ≠ .im0 y z) ∧ (∀ z, i ≠ .im1 z) ∧ (∀ z, i ≠ .im2 z) → t.im = s.im) ∧
    (i ≠ .ei → t.intInhibit = s.intInhibit)) ∧
  ∀ s : State, s.interruptCheck.im = s.im ∧
    (s.interruptCheck.iff1 = s.iff1 ∧ s.interruptCheck.iff2 = s.iff2 ∨
      s.interruptCheck.iff1 = false ∧ s.interruptCheck.iff2 = false)

/-- IX is read and written only by instructions that begin with `DD`, IY only by those that begin with `FD` (R104). -/
def Obligations.IndexRegistersNeedTheirPrefix : Prop :=
  ∀ (i : Instr) (s t : State) (w : Word), exec i s = .next t →
    ((encode i).head? ≠ some 0xDD#8 → t.get .ix = s.get .ix ∧ exec i (s.set .ix w) = .next (t.set .ix w)) ∧
    ((encode i).head? ≠ some 0xFD#8 → t.get .iy = s.get .iy ∧ exec i (s.set .iy w) = .next (t.set .iy w))

/-- R101: each half and the 16-bit register are views of one value; no other register changes. -/
def Obligations.HalvesAliasTheRegister : Prop :=
  ∀ (s : State) (g : Reg16) (v : Byte) (w : Word),
    (s.setHalf g .high v).get g = w16 v (lo (s.get g)) ∧ (s.setHalf g .low v).get g = w16 (hi (s.get g)) v ∧
    (s.set g w).getHalf g .high = hi w ∧ (s.set g w).getHalf g .low = lo w ∧
    w16 ((s.set g w).getHalf g .high) ((s.set g w).getHalf g .low) = w ∧
    (∀ k, k ≠ g → (s.set g w).get k = s.get k ∧ ∀ h, (s.setHalf g h v).get k = s.get k)

/-! ## Interrupts -/

/-- A request and the checks that do not accept it. Its record opens a window of INT_DURATION T-states, which replaces
an open one (R1402, decision D5). The check then only ends the EI delay where no request is pending, drops a lapsed
request, keeps a masked one and one right after `EI` (R1403, R1404, R1405, decision D8), and with IM = 3 raises the
fatal fault and changes nothing else (R1410, decision D25). -/
def Obligations.RequestsThatAreNotAccepted : Prop :=
  ∀ s : State,
    s.recordRequest false = s ∧
    s.recordRequest true = { s with intPending := true, intDeadline := s.clock + s.params.intDuration } ∧
    (s.params.intDuration = 0 → (s.recordRequest true).interruptCheck.intPending = false) ∧
    (s.intPending = false → s.interruptCheck = { s with intInhibit := false }) ∧
    (s.intPending = true → s.intDeadline ≤ s.clock →
      s.interruptCheck = { s with intInhibit := false, intPending := false }) ∧
    (s.intPending = true → s.clock < s.intDeadline → s.iff1 = false ∨ s.intInhibit = true →
      s.interruptCheck = { s with intInhibit := false }) ∧
    (s.intPending = true → s.clock < s.intDeadline → s.iff1 = true → s.intInhibit = false → s.im = 3#2 →
      s.interruptCheck = { s with intInhibit := false, fatal := some .badInterruptMode })

/-- The check that accepts enters the handler: at 0x0038 after 13 T-states in modes 0 and 1, at the word at
`(I << 8) | 0xFF` after 19 in mode 2 (R1406, R1407, decisions D7, D32). The word is read after the push. -/
def Obligations.AcceptanceEntersTheHandler : Prop :=
  ∀ s : State, s.intPending = true → s.clock < s.intDeadline → s.iff1 = true → s.intInhibit = false →
    (s.im = 0#2 ∨ s.im = 1#2 → Accepted s s.interruptCheck 0x0038#16 13) ∧
    (s.im = 2#2 → Accepted s s.interruptCheck (wordAt s.interruptCheck (w16 s.i 0xFF#8)) 19)

/-- The step that runs `EI` accepts nothing, so the next instruction completes first; the step that runs `DI` accepts
nothing either (R1303, R1304, R1506). -/
def Obligations.EnableAndDisableAroundTheCheck : Prop :=
  ∀ s t : State, s.Running → step s = .next t →
    (s.fetchInstr = .ei → t.get .pc = s.get .pc + 1 ∧ t.clock = s.clock + 4 ∧ t.iff1 = true ∧ t.iff2 = true ∧
      t.get .sp = s.get .sp ∧ SameBytes s t ∧ t.intInhibit = false) ∧
    (s.fetchInstr = .di → t.get .pc = s.get .pc + 1 ∧ t.clock = s.clock + 4 ∧ t.iff1 = false ∧ t.iff2 = false ∧
      t.get .sp = s.get .sp ∧ SameBytes s t ∧ t.intInhibit = false)

/-! ## Memory and the host -/

/-- A byte store is read back where the host lets it be written and nowhere else changes anything (R202); a word is two
bytes, low first, its second address modulo 2^16 (R204). -/
def Obligations.StoresReadBack : Prop :=
  ∀ (s : State) (a w : Word) (v : Byte),
    Stored s (s.writeByte a v) a v ∧ StoredWord s (s.writeWord a w) a w ∧
    (Params.writable s.params a.toNat = true → Params.writable s.params (a + 1).toNat = true →
      (s.writeWord a w).readWord a = w) ∧
    (s.writeWord 0xFFFF#16 w).readWord 0xFFFF#16 =
      w16 (if Params.writable s.params 0 = true then hi w else s.readByte 0)
        (if Params.writable s.params 65535 = true then lo w else s.readByte 0xFFFF#16)

/-- Memory's canonical form: every store keeps it, and two canonical memories that read alike are equal data. The form
and the value of an unlisted byte are the model's choice (log 5); the statement holds for any such value. -/
def Obligations.MemoryStaysCanonical : Prop :=
  (∀ (s : State) (a : Word) (v : Byte), Memory.wf s.mem = true → Memory.wf (s.writeByte a v).mem = true) ∧
  ∀ m n : List Host.Cell, Memory.wf m = true → Memory.wf n = true →
    (∀ a : Word, Memory.read m a.toNat = Memory.read n a.toNat) → m = n

/-- The host's reset (R1500, R140, R1502; decision D3): under all_zero every register is 0, under silicon AF and SP are
0xFFFF and PC, I and R are 0; memory is kept; a fatal fault is cleared. That every parameter and the lists `portIn` and
`portLog` are kept too is the model's choice (log 6): R1500 itself speaks of memory, the port devices and the write
policy. -/
def Obligations.HostReset : Prop :=
  ∀ s : State,
    (s.params.resetProfile = .allZero → ∀ g, s.hostReset.get g = 0#16) ∧
    (s.params.resetProfile = .silicon → s.hostReset.get .af = 0xFFFF#16 ∧ s.hostReset.get .sp = 0xFFFF#16 ∧
      s.hostReset.get .pc = 0#16 ∧ s.hostReset.get .ir = 0#16) ∧
    s.hostReset.iff1 = false ∧ s.hostReset.iff2 = false ∧ s.hostReset.im = 0#2 ∧ s.hostReset.intPending = false ∧
    s.hostReset.intDeadline = 0 ∧ s.hostReset.intInhibit = false ∧ s.hostReset.halted = false ∧
    s.hostReset.clock = 0 ∧ s.hostReset.fatal = none ∧ s.hostReset.mem = s.mem ∧ s.hostReset.params = s.params ∧
    SamePorts s s.hostReset

/-! ## Loads, stack and exchanges -/

/-- The 8-bit loads into a register (R501 to R503, R506 to R508, R512, R515): one register written, no flag. -/
def Obligations.LoadsIntoARegister : Prop :=
  ∀ s : State,
    (∀ r r2, RunsQuiet (.ldRegReg r r2) s 1 4 1 [.af, .bc, .de, .hl] fun t => WroteReg8 s t r (s.reg8 r2)) ∧
    (∀ r n, RunsQuiet (.ldRegImm r n) s 2 7 1 [.af, .bc, .de, .hl] fun t => WroteReg8 s t r n) ∧
    (∀ r, RunsQuiet (.ldRegMemHl r) s 1 7 1 [.af, .bc, .de, .hl] fun t =>
      WroteReg8 s t r (s.readByte (s.get .hl))) ∧
    (RunsQuiet .ldAMemBc s 1 7 1 [.af] fun t => WroteReg8 s t .a (s.readByte (s.get .bc))) ∧
    (RunsQuiet .ldAMemDe s 1 7 1 [.af] fun t => WroteReg8 s t .a (s.readByte (s.get .de))) ∧
    (∀ nn, RunsQuiet (.ldAMemNn nn) s 3 13 1 [.af] fun t => WroteReg8 s t .a (s.readByte nn)) ∧
    (∀ x r d, RunsQuiet (.ldRegMemIdx x r d) s 3 19 2 [.af, .bc, .de, .hl] fun t =>
      WroteReg8 s t r (s.readByte (s.get (idxReg x) + sext16 d))) ∧
    ∀ x r h, RunsQuiet (.ldRegHalf x r h) s 2 8 2 [.af, .bc, .de, .hl] fun t => WroteReg8 s t r (s.xh x h)

/-- The loads into an index half (R515, R516, decision D11): the other half is kept, no flag. -/
def Obligations.LoadsIntoAnIndexHalf : Prop :=
  ∀ (s : State) (x : Idx) (h : Half),
    (∀ r, RunsQuiet (.ldHalfReg x h r) s 2 8 2 [idxReg x] fun t => PutXh s t x h (s.reg8 r)) ∧
    (∀ k, RunsQuiet (.ldHalfHalf x h k) s 2 8 2 [idxReg x] fun t => PutXh s t x h (s.xh x k)) ∧
    ∀ n, RunsQuiet (.ldHalfImm x h n) s 3 11 2 [idxReg x] fun t => PutXh s t x h n

/-- The 8-bit stores (R504, R505, R509 to R511, R513, R514): one byte stored, no register, no flag. -/
def Obligations.ByteStores : Prop :=
  ∀ s : State,
    (∀ r, RunsStoring (.ldMemHlReg r) s 1 7 1 (s.get .hl) (s.reg8 r) [] fun _ => True) ∧
    (∀ n, RunsStoring (.ldMemHlImm n) s 2 10 1 (s.get .hl) n [] fun _ => True) ∧
    (RunsStoring .ldMemBcA s 1 7 1 (s.get .bc) s.a [] fun _ => True) ∧
    (RunsStoring .ldMemDeA s 1 7 1 (s.get .de) s.a [] fun _ => True) ∧
    (∀ nn, RunsStoring (.ldMemNnA nn) s 3 13 1 nn s.a [] fun _ => True) ∧
    (∀ x r d, RunsStoring (.ldMemIdxReg x r d) s 3 19 2 (s.get (idxReg x) + sext16 d) (s.reg8 r) [] fun _ => True) ∧
    ∀ x d n, RunsStoring (.ldMemIdxImm x d n) s 4 19 2 (s.get (idxReg x) + sext16 d) n [] fun _ => True

/-- `LD A,I`, `LD A,R`, `LD I,A`, `LD R,A` (R517 to R520, decisions D15, D16, D30): PV is IFF2. R is read before its own
refresh, or after it under `before_execute`; all eight bits of a register written are taken, and the refresh of two
then counts on from the R written, unless it ran before. -/
def Obligations.LoadsOfIAndR : Prop :=
  ∀ s : State,
    (RunsQuiet .ldAI s 2 9 2 [.af] fun t => t.a = s.i ∧
      FlagsAre t.f (t.a.getLsbD 7) (t.a == 0) (t.a.getLsbD 5) false (t.a.getLsbD 3) s.iff2 false (s.f.getLsbD 0)) ∧
    (RunsQuiet .ldAR s 2 9 2 [.af] fun t =>
      t.a = (if s.params.refreshOrder = .afterExecute then s.r else t.r) ∧
      FlagsAre t.f (t.a.getLsbD 7) (t.a == 0) (t.a.getLsbD 5) false (t.a.getLsbD 3) s.iff2 false (s.f.getLsbD 0)) ∧
    (∃ t, exec .ldIA s = .next t ∧ t.get .pc = s.get .pc + 2 ∧ t.clock = s.clock + 9 ∧ t.i = s.a ∧
      t.r.getLsbD 7 = s.r.getLsbD 7 ∧ t.r.toNat % 128 = (s.r.toNat + 2) % 128 ∧ SameControl s t ∧
      SameRegs s t [.pc, .ir] ∧ SameBytes s t ∧ SamePorts s t) ∧
    ∃ t, exec .ldRA s = .next t ∧ t.get .pc = s.get .pc + 2 ∧ t.clock = s.clock + 9 ∧ t.i = s.i ∧
      t.r.getLsbD 7 = s.a.getLsbD 7 ∧
      t.r.toNat % 128 = (s.a.toNat + if s.params.refreshOrder = .afterExecute then 2 else 0) % 128 ∧
      SameControl s t ∧ SameRegs s t [.pc, .ir] ∧ SameBytes s t ∧ SamePorts s t

/-- The 16-bit loads and stores (R601 to R610): a register or two bytes written, no flag. -/
def Obligations.WordLoadsAndStores : Prop :=
  ∀ s : State,
    (∀ p nn, RunsQuiet (.ldPairImm p nn) s 3 10 1 [pairReg p] fun t => t.get (pairReg p) = nn) ∧
    (∀ nn, RunsQuiet (.ldHlMemNn nn) s 3 16 1 [.hl] fun t => t.get .hl = wordAt s nn) ∧
    (∀ p nn, RunsQuiet (.ldPairMemNn p nn) s 4 20 2 [pairReg p] fun t => t.get (pairReg p) = wordAt s nn) ∧
    (RunsQuiet .ldSpHl s 1 6 1 [.sp] fun t => t.get .sp = s.get .hl) ∧
    (∀ x nn, RunsQuiet (.ldIdxImm x nn) s 4 14 2 [idxReg x] fun t => t.get (idxReg x) = nn) ∧
    (∀ x nn, RunsQuiet (.ldIdxMemNn x nn) s 4 20 2 [idxReg x] fun t => t.get (idxReg x) = wordAt s nn) ∧
    (∀ x, RunsQuiet (.ldSpIdx x) s 2 10 2 [.sp] fun t => t.get .sp = s.get (idxReg x)) ∧
    (∀ nn, RunsStoringWord (.ldMemNnHl nn) s 3 16 1 nn (s.get .hl) [] fun _ => True) ∧
    (∀ p nn, RunsStoringWord (.ldMemNnPair p nn) s 4 20 2 nn (s.get (pairReg p)) [] fun _ => True) ∧
    ∀ x nn, RunsStoringWord (.ldMemNnIdx x nn) s 4 20 2 nn (s.get (idxReg x)) [] fun _ => True

/-- `PUSH` and `POP` (R611 to R614, R220): the stack grows downward, modulo 2^16; `POP AF` writes all of F. -/
def Obligations.StackInstructions : Prop :=
  ∀ s : State,
    (∀ q, RunsStoringWord (.pushPair q) s 1 11 1 (s.get .sp - 2) (s.get (pairAfReg q)) [.sp] fun t =>
      t.get .sp = s.get .sp - 2) ∧
    (∀ x, RunsStoringWord (.pushIdx x) s 2 15 2 (s.get .sp - 2) (s.get (idxReg x)) [.sp] fun t =>
      t.get .sp = s.get .sp - 2) ∧
    (∀ q, RunsQuiet (.popPair q) s 1 10 1 [.sp, pairAfReg q] fun t =>
      t.get .sp = s.get .sp + 2 ∧ t.get (pairAfReg q) = wordAt s (s.get .sp)) ∧
    ∀ x, RunsQuiet (.popIdx x) s 2 14 2 [.sp, idxReg x] fun t =>
      t.get .sp = s.get .sp + 2 ∧ t.get (idxReg x) = wordAt s (s.get .sp)

/-- The exchanges of the main set and of the word at SP, which is read before it is written (R622 to R624). -/
def Obligations.Exchanges : Prop :=
  ∀ s : State,
    (RunsQuiet .exDeHl s 1 4 1 [.de, .hl] fun t => t.get .de = s.get .hl ∧ t.get .hl = s.get .de) ∧
    (RunsStoringWord .exMemSpHl s 1 19 1 (s.get .sp) (s.get .hl) [.hl] fun t => t.get .hl = wordAt s (s.get .sp)) ∧
    ∀ x, RunsStoringWord (.exMemSpIdx x) s 2 23 2 (s.get .sp) (s.get (idxReg x)) [idxReg x] fun t =>
      t.get (idxReg x) = wordAt s (s.get .sp)

/-! ## Block instructions -/

/-- `LDI`, `LDD`, `LDIR`, `LDDR` (R700 to R704): one unit a step; a repeating form repeats while BC is not 0. -/
def Obligations.BlockLoads : Prop :=
  ∀ s : State,
    BlockRuns .ldi s false [.af, .bc, .de, .hl] (MovedUnit s 1) ∧
    BlockRuns .ldd s false [.af, .bc, .de, .hl] (MovedUnit s (-1)) ∧
    BlockRuns .ldir s (s.get .bc != 1) [.af, .bc, .de, .hl] (MovedUnit s 1) ∧
    BlockRuns .lddr s (s.get .bc != 1) [.af, .bc, .de, .hl] (MovedUnit s (-1))

/-- `CPI`, `CPD`, `CPIR`, `CPDR` (R705 to R708): a repeating form repeats while BC is not 0 and nothing matched. -/
def Obligations.BlockCompares : Prop :=
  ∀ s : State,
    BlockRuns .cpi s false [.af, .bc, .hl] (ComparedUnit s 1) ∧
    BlockRuns .cpd s false [.af, .bc, .hl] (ComparedUnit s (-1)) ∧
    BlockRuns .cpir s (s.get .bc != 1 && s.a != s.readByte (s.get .hl)) [.af, .bc, .hl] (ComparedUnit s 1) ∧
    BlockRuns .cpdr s (s.get .bc != 1 && s.a != s.readByte (s.get .hl)) [.af, .bc, .hl] (ComparedUnit s (-1))

/-- `INI`, `IND`, `INIR`, `INDR` (R709 to R712, decision D31): the upper address byte is B before its decrement. What a
port read returns is free (log 2): the statement holds for every value. -/
def Obligations.BlockInputs : Prop :=
  ∀ s : State,
    BlockRuns .ini s false [.af, .bc, .hl] (InputUnit s 1 1) ∧
    BlockRuns .ind s false [.af, .bc, .hl] (InputUnit s (-1) (-1)) ∧
    BlockRuns .inir s (s.reg8 .b != 1) [.af, .bc, .hl] (InputUnit s 1 1) ∧
    BlockRuns .indr s (s.reg8 .b != 1) [.af, .bc, .hl] (InputUnit s (-1) (-1))

/-- `OUTI`, `OUTD`, `OTIR`, `OTDR` (R713 to R716, decision D31): the upper address byte is B after its decrement. -/
def Obligations.BlockOutputs : Prop :=
  ∀ s : State,
    BlockRuns .outi s false [.af, .bc, .hl] (OutputUnit s 1) ∧
    BlockRuns .outd s false [.af, .bc, .hl] (OutputUnit s (-1)) ∧
    BlockRuns .otir s (s.reg8 .b != 1) [.af, .bc, .hl] (OutputUnit s 1) ∧
    BlockRuns .otdr s (s.reg8 .b != 1) [.af, .bc, .hl] (OutputUnit s (-1))

/-- `LDIR` (R703, R717) started with the counter `n` (0 counts as 65,536) moves exactly `n` units. Before unit `k` the PC
is still at the instruction, the counter is `n - k`, HL and DE have moved on by `k`, and 21 T-states were charged for each
unit; the unit stores the byte that then stands at HL + k at DE + k and no other byte, so an overlapping copy reads what
an earlier unit wrote. After the last the counter is 0, the PC is past the instruction and 16 T-states were charged for
that unit. -/
def Obligations.BlockLoadMovesItsCounter : Prop :=
  ∀ (n : Nat) (s : State), 0 < n → n ≤ 65536 → (s.get .bc).toNat = n % 65536 →
    (∀ k, k < n → ∃ t u, execTimes .ldir k s = .next t ∧ t.get .pc = s.get .pc ∧
      (t.get .bc).toNat = (n - k) % 65536 ∧ t.get .hl = s.get .hl + BitVec.ofNat 16 k ∧
      t.get .de = s.get .de + BitVec.ofNat 16 k ∧ t.clock = s.clock + 21 * k ∧ t.params = s.params ∧
      exec .ldir t = .next u ∧ execTimes .ldir (k + 1) s = .next u ∧
      Stored t u (s.get .de + BitVec.ofNat 16 k) (t.readByte (s.get .hl + BitVec.ofNat 16 k))) ∧
    ∃ t, execTimes .ldir n s = .next t ∧ t.get .pc = s.get .pc + 2 ∧ t.get .bc = 0 ∧
      t.get .hl = s.get .hl + BitVec.ofNat 16 n ∧ t.get .de = s.get .de + BitVec.ofNat 16 n ∧
      t.clock = s.clock + 21 * (n - 1) + 16

/-! ## 8-bit arithmetic and logic -/

/-- `ADD A,` and `ADC A,` in their five forms (R800, R820, R821, R410). -/
def Obligations.AddAndAdc : Prop :=
  ∀ s : State,
    AluForms s (Added s false) .addAReg .addAMemHl .addAImm .addAMemIdx .addAHalf ∧
    AluForms s (Added s (s.f.getLsbD 0)) .adcAReg .adcAMemHl .adcAImm .adcAMemIdx .adcAHalf

/-- `SUB`, `SBC A,` and `CP` in their five forms (R800, R822, R823, R827, R411, R412, decision D20). -/
def Obligations.SubSbcAndCp : Prop :=
  ∀ s : State,
    AluForms s (Subtracted s.a false) .subAReg .subAMemHl .subAImm .subAMemIdx .subAHalf ∧
    AluForms s (Subtracted s.a (s.f.getLsbD 0)) .sbcAReg .sbcAMemHl .sbcAImm .sbcAMemIdx .sbcAHalf ∧
    AluForms s (Compared s) .cpAReg .cpAMemHl .cpAImm .cpAMemIdx .cpAHalf

/-- `AND`, `XOR` and `OR` in their five forms (R800, R824 to R826, R413). -/
def Obligations.LogicalOperations : Prop :=
  ∀ s : State,
    AluForms s (fun v => LogicResult (s.a &&& v) true) .andAReg .andAMemHl .andAImm .andAMemIdx .andAHalf ∧
    AluForms s (fun v => LogicResult (s.a ^^^ v) false) .xorAReg .xorAMemHl .xorAImm .xorAMemIdx .xorAHalf ∧
    AluForms s (fun v => LogicResult (s.a ||| v) false) .orAReg .orAMemHl .orAImm .orAMemIdx .orAHalf

/-- The 8-bit `INC` and `DEC` in their four forms (R830, R831, R414, R415): C is kept. -/
def Obligations.IncrementAndDecrement8 : Prop :=
  ∀ s : State,
    (∀ r, RunsQuiet (.incReg r) s 1 4 1 [.af, .bc, .de, .hl] fun t =>
      PutReg8 s t r (s.reg8 r + 1) ∧ IncFlags s (s.reg8 r) t) ∧
    (RunsStoring .incMemHl s 1 11 1 (s.get .hl) (s.readByte (s.get .hl) + 1) [.af] fun t =>
      t.a = s.a ∧ IncFlags s (s.readByte (s.get .hl)) t) ∧
    (∀ x d, let a := s.get (idxReg x) + sext16 d
      RunsStoring (.incMemIdx x d) s 3 23 2 a (s.readByte a + 1) [.af] fun t =>
        t.a = s.a ∧ IncFlags s (s.readByte a) t) ∧
    (∀ x h, RunsQuiet (.incHalf x h) s 2 8 2 [.af, idxReg x] fun t =>
      PutXh s t x h (s.xh x h + 1) ∧ t.a = s.a ∧ IncFlags s (s.xh x h) t) ∧
    (∀ r, RunsQuiet (.decReg r) s 1 4 1 [.af, .bc, .de, .hl] fun t =>
      PutReg8 s t r (s.reg8 r - 1) ∧ DecFlags s (s.reg8 r) t) ∧
    (RunsStoring .decMemHl s 1 11 1 (s.get .hl) (s.readByte (s.get .hl) - 1) [.af] fun t =>
      t.a = s.a ∧ DecFlags s (s.readByte (s.get .hl)) t) ∧
    (∀ x d, let a := s.get (idxReg x) + sext16 d
      RunsStoring (.decMemIdx x d) s 3 23 2 a (s.readByte a - 1) [.af] fun t =>
        t.a = s.a ∧ DecFlags s (s.readByte a) t) ∧
    ∀ x h, RunsQuiet (.decHalf x h) s 2 8 2 [.af, idxReg x] fun t =>
      PutXh s t x h (s.xh x h - 1) ∧ t.a = s.a ∧ DecFlags s (s.xh x h) t

/-- `DAA` under DAA_MODE = total, or under strict on an input of the table (R840, decision D26). -/
def Obligations.DecimalAdjust : Prop :=
  ∀ s : State, s.params.daaMode = .total ∨ daaInTable s.a s.f = true →
    RunsQuiet .daa s 1 4 1 [.af] fun t =>
      let c := s.f.getLsbD 0 || decide (0x99 < s.a.toNat)
      let diff : Byte := (if s.f.getLsbD 4 || decide (9 < s.a.toNat % 16) then 0x06#8 else 0#8) +
        (if c then 0x60#8 else 0#8)
      t.a = (if s.f.getLsbD 1 then s.a - diff else s.a + diff) ∧
      FlagsAre t.f (t.a.getLsbD 7) (t.a == 0) (t.a.getLsbD 5)
        (if s.f.getLsbD 1 then s.f.getLsbD 4 && decide (s.a.toNat % 16 < 6) else decide (9 < s.a.toNat % 16))
        (t.a.getLsbD 3) (parity t.a) (s.f.getLsbD 1) c

/-- `DAA` under DAA_MODE = strict on an input outside the table raises the fatal fault at the start of its effect
(R1410, decision D26) and changes nothing else: only R may have changed, where it is refreshed before. Nothing completed,
so no report is left (the form is the model's choice, log 17). -/
def Obligations.StrictDecimalAdjustIsFatal : Prop :=
  ∀ s : State, s.params.daaMode = .strict → daaInTable s.a s.f = false →
    ∃ t, exec .daa s = .next t ∧ SameControl { s with fatal := some .daaOutOfTable } t ∧ t.clock = s.clock ∧
      SameRegs s t [.ir] ∧ (s.params.refreshOrder = .afterExecute → t.get .ir = s.get .ir) ∧
      (s.params.refreshOrder = .beforeExecute → Refreshed s t 1) ∧ SameBytes s t ∧ SamePorts s t ∧ t.report = none

/-- On every row of the decision table of R840 the formula gives the row's correction and carry. -/
def Obligations.DecimalAdjustFollowsTheTable : Prop :=
  ∀ (row : DaaRow) (a f : Byte), row ∈ daaTable → row.matches a f = true →
    (daa8 a f).1 = (if row.n then a - BitVec.ofNat 8 row.correction else a + BitVec.ofNat 8 row.correction) ∧
    (daa8 a f).2.getLsbD 0 = row.cOut

/-- `CPL`, `NEG`, `CCF` and `SCF` (R841 to R844, decisions D13, D19). -/
def Obligations.AccumulatorAndCarryOperations : Prop :=
  ∀ s : State,
    (RunsQuiet .cpl s 1 4 1 [.af] fun t => t.a = ~~~s.a ∧
      FlagsAre t.f (s.f.getLsbD 7) (s.f.getLsbD 6) (t.a.getLsbD 5) true (t.a.getLsbD 3) (s.f.getLsbD 2) true
        (s.f.getLsbD 0)) ∧
    (∀ z, RunsQuiet (.neg z) s 2 8 2 [.af] (Subtracted 0 false s.a)) ∧
    (RunsQuiet .ccf s 1 4 1 [.af] fun t => t.a = s.a ∧
      FlagsAre t.f (s.f.getLsbD 7) (s.f.getLsbD 6) (s.a.getLsbD 5) (s.f.getLsbD 0) (s.a.getLsbD 3) (s.f.getLsbD 2)
        false (!s.f.getLsbD 0)) ∧
    RunsQuiet .scf s 1 4 1 [.af] fun t => t.a = s.a ∧
      FlagsAre t.f (s.f.getLsbD 7) (s.f.getLsbD 6) (s.a.getLsbD 5) false (s.a.getLsbD 3) (s.f.getLsbD 2) false true

/-- R425: the laws of the helpers `add8` and `sub8`: the round trip, and the flags C, H and PV as ranges, the last also
with a carry-in. -/
def Obligations.ArithmeticHelperLaws : Prop :=
  (∀ v1 v2 : Byte, (sub8 (add8 v1 v2 false).1 v2 false).1 = v1) ∧
  (∀ v1 v2 : Byte,
    ((add8 v1 v2 false).2.getLsbD 0 = decide (0xFF < v1.toNat + v2.toNat) ∧
      (add8 v1 v2 false).2.getLsbD 4 = decide (0xF < v1.toNat % 16 + v2.toNat % 16) ∧
      (add8 v1 v2 false).2.getLsbD 2 = outOf8 (v1.toInt + v2.toInt)) ∧
    (sub8 v1 v2 false).2.getLsbD 0 = decide (v1.toNat < v2.toNat) ∧
      (sub8 v1 v2 false).2.getLsbD 4 = decide (v1.toNat % 16 < v2.toNat % 16) ∧
      (sub8 v1 v2 false).2.getLsbD 2 = outOf8 (v1.toInt - v2.toInt)) ∧
  ∀ (v1 v2 : Byte) (c : Bool),
    (add8 v1 v2 c).2.getLsbD 2 = outOf8 (v1.toInt + v2.toInt + c.toNat) ∧
    (sub8 v1 v2 c).2.getLsbD 2 = outOf8 (v1.toInt - v2.toInt - c.toNat)

/-! ## 16-bit arithmetic -/

/-- `ADD HL,rr` and `ADD IX,rr` (R901, R904, R416): S, Z and PV are kept; code 10 is the index register itself. -/
def Obligations.AddPairs : Prop :=
  ∀ (s : State) (p : Pair),
    RunsQuiet (.addHlPair p) s 1 11 1 [.hl, .af] (Added16 s .hl (s.get (pairReg p))) ∧
    ∀ x, RunsQuiet (.addIdxPair x p) s 2 15 2 [idxReg x, .af]
      (Added16 s (idxReg x) (if p = .hl then s.get (idxReg x) else s.get (pairReg p)))

/-- `ADC HL,rr` and `SBC HL,rr` (R902, R903, R417, R418). -/
def Obligations.AddAndSubtractPairsWithCarry : Prop :=
  ∀ (s : State) (p : Pair),
    RunsQuiet (.adcHlPair p) s 2 15 2 [.hl, .af] (AddedCarry16 s (s.get (pairReg p))) ∧
    RunsQuiet (.sbcHlPair p) s 2 15 2 [.hl, .af] (SubtractedCarry16 s (s.get (pairReg p)))

/-- R419: `INC` and `DEC` of a pair or an index register change no flag; the value wraps (R905 to R908). -/
def Obligations.IncrementAndDecrement16 : Prop :=
  ∀ s : State,
    (∀ p, RunsQuiet (.incPair p) s 1 6 1 [pairReg p] fun t =>
      t.get (pairReg p) = s.get (pairReg p) + 1 ∧ t.f = s.f) ∧
    (∀ p, RunsQuiet (.decPair p) s 1 6 1 [pairReg p] fun t =>
      t.get (pairReg p) = s.get (pairReg p) - 1 ∧ t.f = s.f) ∧
    (∀ x, RunsQuiet (.incIdx x) s 2 10 2 [idxReg x] fun t =>
      t.get (idxReg x) = s.get (idxReg x) + 1 ∧ t.f = s.f) ∧
    ∀ x, RunsQuiet (.decIdx x) s 2 10 2 [idxReg x] fun t =>
      t.get (idxReg x) = s.get (idxReg x) - 1 ∧ t.f = s.f

/-! ## Rotates, shifts and bits -/

/-- `RLCA`, `RRCA`, `RLA`, `RRA` (R1001 to R1004, R422): S, Z and PV are kept. -/
def Obligations.AccumulatorRotates : Prop :=
  ∀ s : State,
    RunsQuiet .rlca s 1 4 1 [.af] (RotatedA .rlc s) ∧ RunsQuiet .rrca s 1 4 1 [.af] (RotatedA .rrc s) ∧
    RunsQuiet .rla s 1 4 1 [.af] (RotatedA .rl s) ∧ RunsQuiet .rra s 1 4 1 [.af] (RotatedA .rr s)

/-- The rotates of the `CB` tables in their four forms (R1010 to R1014, R420, R421, decision D12). -/
def Obligations.RotatesOfBytes : Prop :=
  ∀ s : State,
    RotForms s .rlc .rlcReg .rlcMemHl .rlcMemIdx .rlcMemIdxCopy ∧
    RotForms s .rrc .rrcReg .rrcMemHl .rrcMemIdx .rrcMemIdxCopy ∧
    RotForms s .rl .rlReg .rlMemHl .rlMemIdx .rlMemIdxCopy ∧
    RotForms s .rr .rrReg .rrMemHl .rrMemIdx .rrMemIdxCopy

/-- The shifts of the `CB` tables in their four forms (R1010, R1015 to R1018, R420, R421, decisions D1, D12). -/
def Obligations.ShiftsOfBytes : Prop :=
  ∀ s : State,
    RotForms s .sla .slaReg .slaMemHl .slaMemIdx .slaMemIdxCopy ∧
    RotForms s .sra .sraReg .sraMemHl .sraMemIdx .sraMemIdxCopy ∧
    RotForms s .sll .sllReg .sllMemHl .sllMemIdx .sllMemIdxCopy ∧
    RotForms s .srl .srlReg .srlMemHl .srlMemIdx .srlMemIdxCopy

/-- `BIT` (R1019 to R1022, decisions D12, D17). After `BIT b,(HL)` Y and X are those of one free draw, any value
(log 1): the statement only says that some two bits stand there. -/
def Obligations.BitTests : Prop :=
  ∀ (s : State) (b : BitVec 3),
    (∀ r, RunsQuiet (.bitReg b r) s 2 8 2 [.af] fun t =>
      BitFlags s b (s.reg8 r) ((s.reg8 r).getLsbD 5) ((s.reg8 r).getLsbD 3) t) ∧
    (RunsTo (.bitMemHl b) s { s with draws := s.draws + 1 } (s.get .pc + 2) 12 2 [.af] fun t =>
      SameBytes s t ∧ SamePorts s t ∧ ∃ Y X, BitFlags s b (s.readByte (s.get .hl)) Y X t) ∧
    ∀ x d z, let a := s.get (idxReg x) + sext16 d
      RunsQuiet (.bitMemIdx x d b z) s 4 20 2 [.af] fun t =>
        BitFlags s b (s.readByte a) ((hi a).getLsbD 5) ((hi a).getLsbD 3) t

/-- `RES` and `SET` in their four forms (R1023, R1024, decision D12): one bit of the operand, no flag. -/
def Obligations.BitWrites : Prop :=
  (∀ (b : BitVec 3) (v : Byte) (k : Nat), k < 8 →
    (clearBit b v).getLsbD k = (v.getLsbD k && k != b.toNat) ∧
    (raiseBit b v).getLsbD k = (v.getLsbD k || k == b.toNat)) ∧
  ∀ s : State,
    BitForms s clearBit .resReg .resMemHl .resMemIdx .resMemIdxCopy ∧
    BitForms s raiseBit .setReg .setMemHl .setMemIdx .setMemIdxCopy

/-- `RLD` and `RRD` (R1025, R1026): the digits move between A and the byte at HL; the high digit of A is kept. -/
def Obligations.DigitRotates : Prop :=
  ∀ s : State, let v := (s.readByte (s.get .hl)).toNat
    (RunsStoring .rld s 2 18 2 (s.get .hl) (BitVec.ofNat 8 (v % 16 * 16 + s.a.toNat % 16)) [.af] fun t =>
      t.a.toNat = s.a.toNat / 16 * 16 + v / 16 ∧
      FlagsAre t.f (t.a.getLsbD 7) (t.a == 0) (t.a.getLsbD 5) false (t.a.getLsbD 3) (parity t.a) false
        (s.f.getLsbD 0)) ∧
    RunsStoring .rrd s 2 18 2 (s.get .hl) (BitVec.ofNat 8 (s.a.toNat % 16 * 16 + v / 16)) [.af] fun t =>
      t.a.toNat = s.a.toNat / 16 * 16 + v % 16 ∧
      FlagsAre t.f (t.a.getLsbD 7) (t.a == 0) (t.a.getLsbD 5) false (t.a.getLsbD 3) (parity t.a) false
        (s.f.getLsbD 0)

/-! ## Jumps, calls and returns -/

/-- The jumps (R1101 to R1107, the conditions as 30_encoding.md R314 says): a transfer taken writes the PC, one not
taken moves past the instruction. -/
def Obligations.Jumps : Prop :=
  ∀ s : State, let quiet := fun t => SameBytes s t ∧ SamePorts s t
    (s.cond .nz = !s.f.getLsbD 6 ∧ s.cond .z = s.f.getLsbD 6 ∧ s.cond .nc = !s.f.getLsbD 0 ∧
    s.cond .c = s.f.getLsbD 0 ∧ s.cond .po = !s.f.getLsbD 2 ∧ s.cond .pe = s.f.getLsbD 2 ∧
    s.cond .p = !s.f.getLsbD 7 ∧ s.cond .m = s.f.getLsbD 7) ∧
    (∀ nn, Runs (.jp nn) s nn 10 1 [] quiet) ∧
    (∀ cc nn, Runs (.jpCond cc nn) s (if s.cond cc then nn else s.get .pc + 3) 10 1 [] quiet) ∧
    (∀ e, Runs (.jr e) s (s.get .pc + 2 + sext16 e) 12 1 [] quiet) ∧
    (∀ cc e, Runs (.jrCond cc e) s (if s.cond cc then s.get .pc + 2 + sext16 e else s.get .pc + 2)
      (if s.cond cc then 12 else 7) 1 [] quiet) ∧
    (∀ e, Runs (.djnz e) s (if s.reg8 .b = 1 then s.get .pc + 2 else s.get .pc + 2 + sext16 e)
      (if s.reg8 .b = 1 then 8 else 13) 1 [.bc] fun t =>
        t.reg8 .b = s.reg8 .b - 1 ∧ t.reg8 .c = s.reg8 .c ∧ quiet t) ∧
    Runs .jpHl s (s.get .hl) 4 1 [] quiet ∧
    ∀ x, Runs (.jpIdx x) s (s.get (idxReg x)) 8 2 [] quiet

/-- The calls and restarts (R1108, R1109, R1120): the return address is pushed; a call not taken changes nothing. -/
def Obligations.CallsAndRestarts : Prop :=
  ∀ s : State,
    let pushed := fun ret t => t.get .sp = s.get .sp - 2 ∧ StoredWord s t (s.get .sp - 2) ret ∧ SamePorts s t
    (∀ nn, Runs (.call nn) s nn 17 1 [.sp] (pushed (s.get .pc + 3))) ∧
    (∀ cc nn, s.cond cc = true → Runs (.callCond cc nn) s nn 17 1 [.sp] (pushed (s.get .pc + 3))) ∧
    (∀ cc nn, s.cond cc = false → RunsQuiet (.callCond cc nn) s 3 10 1 [] fun _ => True) ∧
    ∀ p, Runs (.rst p) s (BitVec.ofNat 16 (8 * p.toNat)) 11 1 [.sp] (pushed (s.get .pc + 1))

/-- The returns (R1110 to R1113, R1412): the PC is popped; `RETN` and `RETI` also copy IFF2 into IFF1. -/
def Obligations.Returns : Prop :=
  ∀ s : State,
    let popped := fun t => t.get .sp = s.get .sp + 2 ∧ SameBytes s t ∧ SamePorts s t
    Runs .ret s (wordAt s (s.get .sp)) 10 1 [.sp] popped ∧
    (∀ cc, s.cond cc = true → Runs (.retCond cc) s (wordAt s (s.get .sp)) 11 1 [.sp] popped) ∧
    (∀ cc, s.cond cc = false → RunsQuiet (.retCond cc) s 1 5 1 [] fun _ => True) ∧
    (∀ z, RunsTo (.retn z) s { s with iff1 := s.iff2 } (wordAt s (s.get .sp)) 14 2 [.sp] popped) ∧
    RunsTo .reti s { s with iff1 := s.iff2 } (wordAt s (s.get .sp)) 14 2 [.sp] popped

/-! ## Input, output and CPU control -/

/-- The input and output instructions (R1201 to R1206, decisions D1, D31, D33): the port, the upper address byte and
the value of each access. What a read returns is free (log 2): the statement holds for every value. -/
def Obligations.InputAndOutput : Prop :=
  ∀ s : State,
    let reads := fun port upper t => SameBytes s t ∧ t.portIn = s.portIn.tail ∧
      t.portLog = .read port upper (s.portValue port upper) :: s.portLog
    let writes := fun port upper v t => SameBytes s t ∧ t.portIn = s.portIn ∧
      t.portLog = .write port upper v :: s.portLog
    let v := s.portValue (s.reg8 .c) (s.reg8 .b)
    let flags := fun t => FlagsAre (State.f t) (v.getLsbD 7) (v == 0) (v.getLsbD 5) false (v.getLsbD 3) (parity v)
      false (s.f.getLsbD 0)
    (∀ n, Runs (.inAImm n) s (s.get .pc + 2) 11 1 [.af] fun t =>
      t.a = s.portValue n s.a ∧ t.f = s.f ∧ reads n s.a t) ∧
    (∀ n, Runs (.outImmA n) s (s.get .pc + 2) 11 1 [] (writes n s.a s.a)) ∧
    (∀ r, Runs (.inRegC r) s (s.get .pc + 2) 12 2 [.af, .bc, .de, .hl] fun t =>
      PutReg8 s t r v ∧ flags t ∧ reads (s.reg8 .c) (s.reg8 .b) t) ∧
    (Runs .inFC s (s.get .pc + 2) 12 2 [.af] fun t =>
      t.a = s.a ∧ flags t ∧ reads (s.reg8 .c) (s.reg8 .b) t) ∧
    (∀ r, Runs (.outCReg r) s (s.get .pc + 2) 12 2 [] (writes (s.reg8 .c) (s.reg8 .b) (s.reg8 r))) ∧
    Runs .outCZero s (s.get .pc + 2) 12 2 [] (writes (s.reg8 .c) (s.reg8 .b) 0)

/-- The no-operation encodings change nothing but the PC, the clock and R (R1301, R1308, R1309); `HALT`, `DI`, `EI` and
`IM` write their control state and nothing else (R1302 to R1307, decisions D8, D14). -/
def Obligations.CpuControlAndNoOperations : Prop :=
  ∀ s : State, let quiet := fun t => SameBytes s t ∧ SamePorts s t
    (RunsQuiet .nop s 1 4 1 [] fun _ => True) ∧
    (∀ x, RunsQuiet (.nopPrefix x) s 1 4 1 [] fun _ => True) ∧
    (∀ z, RunsQuiet (.nopEdLow z) s 2 8 2 [] fun _ => True) ∧
    (∀ z, RunsQuiet (.nopEdHigh z) s 2 8 2 [] fun _ => True) ∧
    (∀ z, RunsQuiet (.nopEdMid z) s 2 8 2 [] fun _ => True) ∧
    (∀ y z, RunsQuiet (.nopEdBlock y z) s 2 8 2 [] fun _ => True) ∧
    (∀ z, RunsQuiet (.nopEdSeven z) s 2 8 2 [] fun _ => True) ∧
    RunsTo .halt s { s with halted := true } (s.get .pc + 1) 4 1 [] quiet ∧
    RunsTo .di s { s with iff1 := false, iff2 := false } (s.get .pc + 1) 4 1 [] quiet ∧
    RunsTo .ei s { s with iff1 := true, iff2 := true, intInhibit := true } (s.get .pc + 1) 4 1 [] quiet ∧
    (∀ y z, RunsTo (.im0 y z) s { s with im := 0#2 } (s.get .pc + 2) 8 2 [] quiet) ∧
    (∀ z, RunsTo (.im1 z) s { s with im := 1#2 } (s.get .pc + 2) 8 2 [] quiet) ∧
    ∀ z, RunsTo (.im2 z) s { s with im := 2#2 } (s.get .pc + 2) 8 2 [] quiet

/-! ## What the result of a step shows -/

/-- The completion state and the descriptor of every instruction (R400, R402, 60_exceptions.md R1424). An instruction that
completes shows its descriptor, with its own length and the refreshes it made, and one completion state: Next moves the PC
by the length and charges T; only jumps, calls, returns, restarts and repeating block instructions complete Repeat, which
charges T, or RepeatSlow, which charges a Tslow the descriptor has; none completes NextSlow (decision D34). The descriptor
is the same whatever the state. The sequencer implements all four states, NextSlow included. Nothing reads what was
shown: an instruction and a step do the same whatever stands there. A step shows what its instruction showed, a halted
step nothing. That this stands in a field of State is the model's choice (log 17). -/
def Obligations.CompletionStateAndDescriptor : Prop :=
  (∀ (i : Instr) (s : State), ¬ strictDaaFails i s →
    ∃ t d c, exec i s = .next t ∧ t.report = some ⟨d, c⟩ ∧ d.length = i.length ∧
      (i ≠ .ldIA → i ≠ .ldRA → Refreshed s t d.rDelta) ∧
      (c = .next ∧ t.get .pc = s.get .pc + BitVec.ofNat 16 d.length ∧ t.clock = s.clock + d.t ∨
        MayRepeat i ∧
          (c = .again ∧ t.clock = s.clock + d.t ∨ c = .againSlow ∧ ∃ n, d.tSlow = some n ∧ t.clock = s.clock + n))) ∧
  (∀ (i : Instr) (s s2 t t2 : State) (r r2 : StepReport), exec i s = .next t → exec i s2 = .next t2 →
    t.report = some r → t2.report = some r2 → r.desc = r2.desc) ∧
  (∀ (len fast slow k : Nat) (c : Completion) (f : State → State) (s : State),
    let d : Desc := ⟨len, fast, some slow, k⟩
    let u := f (s.refreshIf .beforeExecute k)
    ∃ t, sequencer d (fun v => .done c (f v)) s = .next t ∧ t.report = some ⟨d, c⟩ ∧
      t.get .pc = (if c = .next ∨ c = .nextSlow then u.get .pc + BitVec.ofNat 16 len else u.get .pc) ∧
      t.clock = u.clock + (if c = .next ∨ c = .again then fast else slow)) ∧
  (∀ (s : State) (o : Option StepReport),
    (∀ i, exec i { s with report := o } = exec i s) ∧ (s.fatal = none → step { s with report := o } = step s)) ∧
  ∀ s t : State, s.fatal = none → step s = .next t →
    (s.halted = true → t.report = none) ∧
    (s.halted = false → ∃ u, exec s.fetchInstr s = .next u ∧ t.report = u.report)
end

