-- ==== Sys2Proof/Laws/Bits.lean ====
section
/-! SUPPORT. The halves of a word (00_scope.md R13) as numbers, and that they and the word are two views of one
value (10_state.md R101). -/

namespace Sys2Proof

theorem toNat_hi (w : Word) : (hi w).toNat = w.toNat / 256 := by
  have := w.isLt
  simp only [hi, BitVec.extractLsb'_toNat, Nat.shiftRight_eq_div_pow]; omega

theorem toNat_lo (w : Word) : (lo w).toNat = w.toNat % 256 := by
  simp only [lo, BitVec.extractLsb'_toNat, Nat.shiftRight_eq_div_pow]; omega

theorem toNat_w16 (h l : Byte) : (w16 h l).toNat = h.toNat * 256 + l.toNat := by
  have := l.isLt
  have e : (w16 h l).toNat = h.toNat <<< 8 ||| l.toNat := BitVec.toNat_append h l
  rw [e, ← Nat.shiftLeft_add_eq_or_of_lt this, Nat.shiftLeft_eq]

@[simp] theorem hi_w16 (h l : Byte) : hi (w16 h l) = h := by
  apply BitVec.eq_of_toNat_eq; rw [toNat_hi, toNat_w16]; omega

@[simp] theorem lo_w16 (h l : Byte) : lo (w16 h l) = l := by
  apply BitVec.eq_of_toNat_eq; rw [toNat_lo, toNat_w16]; omega

@[simp] theorem w16_hi_lo (w : Word) : w16 (hi w) (lo w) = w := by
  apply BitVec.eq_of_toNat_eq; rw [toNat_w16, toNat_hi, toNat_lo]; omega

end Sys2Proof
end

