-- ==== Sys2Proof/Laws/Dispatch.lean ====
section
/-! SUPPORT. What `exec` runs for each instruction: its meaning. -/

namespace Sys2Proof.Machine

theorem exec_nop (s : State) : exec (.nop) s = execNop s := rfl
theorem exec_ldPairImm (p : Pair) (nn : Word) (s : State) : exec (.ldPairImm p nn) s = execLdPairImm p nn s := rfl
theorem exec_ldMemBcA (s : State) : exec (.ldMemBcA) s = execLdMemBcA s := rfl
theorem exec_ldMemDeA (s : State) : exec (.ldMemDeA) s = execLdMemDeA s := rfl
theorem exec_ldMemNnHl (nn : Word) (s : State) : exec (.ldMemNnHl nn) s = execLdMemNnHl nn s := rfl
theorem exec_ldMemNnA (nn : Word) (s : State) : exec (.ldMemNnA nn) s = execLdMemNnA nn s := rfl
theorem exec_incPair (p : Pair) (s : State) : exec (.incPair p) s = execIncPair p s := rfl
theorem exec_incReg (r : Reg8) (s : State) : exec (.incReg r) s = execIncReg r s := rfl
theorem exec_incMemHl (s : State) : exec (.incMemHl) s = execIncMemHl s := rfl
theorem exec_decReg (r : Reg8) (s : State) : exec (.decReg r) s = execDecReg r s := rfl
theorem exec_decMemHl (s : State) : exec (.decMemHl) s = execDecMemHl s := rfl
theorem exec_ldRegImm (r : Reg8) (n : Byte) (s : State) : exec (.ldRegImm r n) s = execLdRegImm r n s := rfl
theorem exec_ldMemHlImm (n : Byte) (s : State) : exec (.ldMemHlImm n) s = execLdMemHlImm n s := rfl
theorem exec_rlca (s : State) : exec (.rlca) s = execRlca s := rfl
theorem exec_rrca (s : State) : exec (.rrca) s = execRrca s := rfl
theorem exec_rla (s : State) : exec (.rla) s = execRla s := rfl
theorem exec_rra (s : State) : exec (.rra) s = execRra s := rfl
theorem exec_daa (s : State) : exec (.daa) s = execDaa s := rfl
theorem exec_cpl (s : State) : exec (.cpl) s = execCpl s := rfl
theorem exec_scf (s : State) : exec (.scf) s = execScf s := rfl
theorem exec_ccf (s : State) : exec (.ccf) s = execCcf s := rfl
theorem exec_exAfAf (s : State) : exec (.exAfAf) s = execExAfAf s := rfl
theorem exec_djnz (e : Byte) (s : State) : exec (.djnz e) s = execDjnz e s := rfl
theorem exec_jr (e : Byte) (s : State) : exec (.jr e) s = execJr e s := rfl
theorem exec_jrCond (cc : Cond) (e : Byte) (s : State) : exec (.jrCond cc e) s = execJrCond cc e s := rfl
theorem exec_addHlPair (p : Pair) (s : State) : exec (.addHlPair p) s = execAddHlPair p s := rfl
theorem exec_ldAMemBc (s : State) : exec (.ldAMemBc) s = execLdAMemBc s := rfl
theorem exec_ldAMemDe (s : State) : exec (.ldAMemDe) s = execLdAMemDe s := rfl
theorem exec_ldHlMemNn (nn : Word) (s : State) : exec (.ldHlMemNn nn) s = execLdHlMemNn nn s := rfl
theorem exec_ldAMemNn (nn : Word) (s : State) : exec (.ldAMemNn nn) s = execLdAMemNn nn s := rfl
theorem exec_decPair (p : Pair) (s : State) : exec (.decPair p) s = execDecPair p s := rfl
theorem exec_ldRegReg (r : Reg8) (r2 : Reg8) (s : State) : exec (.ldRegReg r r2) s = execLdRegReg r r2 s := rfl
theorem exec_ldRegMemHl (r : Reg8) (s : State) : exec (.ldRegMemHl r) s = execLdRegMemHl r s := rfl
theorem exec_ldMemHlReg (r : Reg8) (s : State) : exec (.ldMemHlReg r) s = execLdMemHlReg r s := rfl
theorem exec_halt (s : State) : exec (.halt) s = execHalt s := rfl
theorem exec_addAReg (r : Reg8) (s : State) : exec (.addAReg r) s = execAddAReg r s := rfl
theorem exec_addAMemHl (s : State) : exec (.addAMemHl) s = execAddAMemHl s := rfl
theorem exec_addAImm (n : Byte) (s : State) : exec (.addAImm n) s = execAddAImm n s := rfl
theorem exec_addAMemIdx (x : Idx) (d : Byte) (s : State) : exec (.addAMemIdx x d) s = execAddAMemIdx x d s := rfl
theorem exec_addAHalf (x : Idx) (h : Half) (s : State) : exec (.addAHalf x h) s = execAddAHalf x h s := rfl
theorem exec_adcAReg (r : Reg8) (s : State) : exec (.adcAReg r) s = execAdcAReg r s := rfl
theorem exec_adcAMemHl (s : State) : exec (.adcAMemHl) s = execAdcAMemHl s := rfl
theorem exec_adcAImm (n : Byte) (s : State) : exec (.adcAImm n) s = execAdcAImm n s := rfl
theorem exec_adcAMemIdx (x : Idx) (d : Byte) (s : State) : exec (.adcAMemIdx x d) s = execAdcAMemIdx x d s := rfl
theorem exec_adcAHalf (x : Idx) (h : Half) (s : State) : exec (.adcAHalf x h) s = execAdcAHalf x h s := rfl
theorem exec_subAReg (r : Reg8) (s : State) : exec (.subAReg r) s = execSubAReg r s := rfl
theorem exec_subAMemHl (s : State) : exec (.subAMemHl) s = execSubAMemHl s := rfl
theorem exec_subAImm (n : Byte) (s : State) : exec (.subAImm n) s = execSubAImm n s := rfl
theorem exec_subAMemIdx (x : Idx) (d : Byte) (s : State) : exec (.subAMemIdx x d) s = execSubAMemIdx x d s := rfl
theorem exec_subAHalf (x : Idx) (h : Half) (s : State) : exec (.subAHalf x h) s = execSubAHalf x h s := rfl
theorem exec_sbcAReg (r : Reg8) (s : State) : exec (.sbcAReg r) s = execSbcAReg r s := rfl
theorem exec_sbcAMemHl (s : State) : exec (.sbcAMemHl) s = execSbcAMemHl s := rfl
theorem exec_sbcAImm (n : Byte) (s : State) : exec (.sbcAImm n) s = execSbcAImm n s := rfl
theorem exec_sbcAMemIdx (x : Idx) (d : Byte) (s : State) : exec (.sbcAMemIdx x d) s = execSbcAMemIdx x d s := rfl
theorem exec_sbcAHalf (x : Idx) (h : Half) (s : State) : exec (.sbcAHalf x h) s = execSbcAHalf x h s := rfl
theorem exec_andAReg (r : Reg8) (s : State) : exec (.andAReg r) s = execAndAReg r s := rfl
theorem exec_andAMemHl (s : State) : exec (.andAMemHl) s = execAndAMemHl s := rfl
theorem exec_andAImm (n : Byte) (s : State) : exec (.andAImm n) s = execAndAImm n s := rfl
theorem exec_andAMemIdx (x : Idx) (d : Byte) (s : State) : exec (.andAMemIdx x d) s = execAndAMemIdx x d s := rfl
theorem exec_andAHalf (x : Idx) (h : Half) (s : State) : exec (.andAHalf x h) s = execAndAHalf x h s := rfl
theorem exec_xorAReg (r : Reg8) (s : State) : exec (.xorAReg r) s = execXorAReg r s := rfl
theorem exec_xorAMemHl (s : State) : exec (.xorAMemHl) s = execXorAMemHl s := rfl
theorem exec_xorAImm (n : Byte) (s : State) : exec (.xorAImm n) s = execXorAImm n s := rfl
theorem exec_xorAMemIdx (x : Idx) (d : Byte) (s : State) : exec (.xorAMemIdx x d) s = execXorAMemIdx x d s := rfl
theorem exec_xorAHalf (x : Idx) (h : Half) (s : State) : exec (.xorAHalf x h) s = execXorAHalf x h s := rfl
theorem exec_orAReg (r : Reg8) (s : State) : exec (.orAReg r) s = execOrAReg r s := rfl
theorem exec_orAMemHl (s : State) : exec (.orAMemHl) s = execOrAMemHl s := rfl
theorem exec_orAImm (n : Byte) (s : State) : exec (.orAImm n) s = execOrAImm n s := rfl
theorem exec_orAMemIdx (x : Idx) (d : Byte) (s : State) : exec (.orAMemIdx x d) s = execOrAMemIdx x d s := rfl
theorem exec_orAHalf (x : Idx) (h : Half) (s : State) : exec (.orAHalf x h) s = execOrAHalf x h s := rfl
theorem exec_cpAReg (r : Reg8) (s : State) : exec (.cpAReg r) s = execCpAReg r s := rfl
theorem exec_cpAMemHl (s : State) : exec (.cpAMemHl) s = execCpAMemHl s := rfl
theorem exec_cpAImm (n : Byte) (s : State) : exec (.cpAImm n) s = execCpAImm n s := rfl
theorem exec_cpAMemIdx (x : Idx) (d : Byte) (s : State) : exec (.cpAMemIdx x d) s = execCpAMemIdx x d s := rfl
theorem exec_cpAHalf (x : Idx) (h : Half) (s : State) : exec (.cpAHalf x h) s = execCpAHalf x h s := rfl
theorem exec_retCond (cc : Cond) (s : State) : exec (.retCond cc) s = execRetCond cc s := rfl
theorem exec_popPair (q : PairAf) (s : State) : exec (.popPair q) s = execPopPair q s := rfl
theorem exec_jpCond (cc : Cond) (nn : Word) (s : State) : exec (.jpCond cc nn) s = execJpCond cc nn s := rfl
theorem exec_jp (nn : Word) (s : State) : exec (.jp nn) s = execJp nn s := rfl
theorem exec_outImmA (n : Byte) (s : State) : exec (.outImmA n) s = execOutImmA n s := rfl
theorem exec_inAImm (n : Byte) (s : State) : exec (.inAImm n) s = execInAImm n s := rfl
theorem exec_exMemSpHl (s : State) : exec (.exMemSpHl) s = execExMemSpHl s := rfl
theorem exec_exDeHl (s : State) : exec (.exDeHl) s = execExDeHl s := rfl
theorem exec_di (s : State) : exec (.di) s = execDi s := rfl
theorem exec_ei (s : State) : exec (.ei) s = execEi s := rfl
theorem exec_callCond (cc : Cond) (nn : Word) (s : State) : exec (.callCond cc nn) s = execCallCond cc nn s := rfl
theorem exec_pushPair (q : PairAf) (s : State) : exec (.pushPair q) s = execPushPair q s := rfl
theorem exec_call (nn : Word) (s : State) : exec (.call nn) s = execCall nn s := rfl
theorem exec_rst (t : BitVec 3) (s : State) : exec (.rst t) s = execRst t s := rfl
theorem exec_ret (s : State) : exec (.ret) s = execRet s := rfl
theorem exec_exx (s : State) : exec (.exx) s = execExx s := rfl
theorem exec_jpHl (s : State) : exec (.jpHl) s = execJpHl s := rfl
theorem exec_ldSpHl (s : State) : exec (.ldSpHl) s = execLdSpHl s := rfl
theorem exec_rlcReg (r : Reg8) (s : State) : exec (.rlcReg r) s = execRlcReg r s := rfl
theorem exec_rlcMemHl (s : State) : exec (.rlcMemHl) s = execRlcMemHl s := rfl
theorem exec_rlcMemIdx (x : Idx) (d : Byte) (s : State) : exec (.rlcMemIdx x d) s = execRlcMemIdx x d s := rfl
theorem exec_rlcMemIdxCopy (x : Idx) (d : Byte) (r : Reg8) (s : State) :
    exec (.rlcMemIdxCopy x d r) s = execRlcMemIdxCopy x d r s := rfl
theorem exec_rrcReg (r : Reg8) (s : State) : exec (.rrcReg r) s = execRrcReg r s := rfl
theorem exec_rrcMemHl (s : State) : exec (.rrcMemHl) s = execRrcMemHl s := rfl
theorem exec_rrcMemIdx (x : Idx) (d : Byte) (s : State) : exec (.rrcMemIdx x d) s = execRrcMemIdx x d s := rfl
theorem exec_rrcMemIdxCopy (x : Idx) (d : Byte) (r : Reg8) (s : State) :
    exec (.rrcMemIdxCopy x d r) s = execRrcMemIdxCopy x d r s := rfl
theorem exec_rlReg (r : Reg8) (s : State) : exec (.rlReg r) s = execRlReg r s := rfl
theorem exec_rlMemHl (s : State) : exec (.rlMemHl) s = execRlMemHl s := rfl
theorem exec_rlMemIdx (x : Idx) (d : Byte) (s : State) : exec (.rlMemIdx x d) s = execRlMemIdx x d s := rfl
theorem exec_rlMemIdxCopy (x : Idx) (d : Byte) (r : Reg8) (s : State) :
    exec (.rlMemIdxCopy x d r) s = execRlMemIdxCopy x d r s := rfl
theorem exec_rrReg (r : Reg8) (s : State) : exec (.rrReg r) s = execRrReg r s := rfl
theorem exec_rrMemHl (s : State) : exec (.rrMemHl) s = execRrMemHl s := rfl
theorem exec_rrMemIdx (x : Idx) (d : Byte) (s : State) : exec (.rrMemIdx x d) s = execRrMemIdx x d s := rfl
theorem exec_rrMemIdxCopy (x : Idx) (d : Byte) (r : Reg8) (s : State) :
    exec (.rrMemIdxCopy x d r) s = execRrMemIdxCopy x d r s := rfl
theorem exec_slaReg (r : Reg8) (s : State) : exec (.slaReg r) s = execSlaReg r s := rfl
theorem exec_slaMemHl (s : State) : exec (.slaMemHl) s = execSlaMemHl s := rfl
theorem exec_slaMemIdx (x : Idx) (d : Byte) (s : State) : exec (.slaMemIdx x d) s = execSlaMemIdx x d s := rfl
theorem exec_slaMemIdxCopy (x : Idx) (d : Byte) (r : Reg8) (s : State) :
    exec (.slaMemIdxCopy x d r) s = execSlaMemIdxCopy x d r s := rfl
theorem exec_sraReg (r : Reg8) (s : State) : exec (.sraReg r) s = execSraReg r s := rfl
theorem exec_sraMemHl (s : State) : exec (.sraMemHl) s = execSraMemHl s := rfl
theorem exec_sraMemIdx (x : Idx) (d : Byte) (s : State) : exec (.sraMemIdx x d) s = execSraMemIdx x d s := rfl
theorem exec_sraMemIdxCopy (x : Idx) (d : Byte) (r : Reg8) (s : State) :
    exec (.sraMemIdxCopy x d r) s = execSraMemIdxCopy x d r s := rfl
theorem exec_sllReg (r : Reg8) (s : State) : exec (.sllReg r) s = execSllReg r s := rfl
theorem exec_sllMemHl (s : State) : exec (.sllMemHl) s = execSllMemHl s := rfl
theorem exec_sllMemIdx (x : Idx) (d : Byte) (s : State) : exec (.sllMemIdx x d) s = execSllMemIdx x d s := rfl
theorem exec_sllMemIdxCopy (x : Idx) (d : Byte) (r : Reg8) (s : State) :
    exec (.sllMemIdxCopy x d r) s = execSllMemIdxCopy x d r s := rfl
theorem exec_srlReg (r : Reg8) (s : State) : exec (.srlReg r) s = execSrlReg r s := rfl
theorem exec_srlMemHl (s : State) : exec (.srlMemHl) s = execSrlMemHl s := rfl
theorem exec_srlMemIdx (x : Idx) (d : Byte) (s : State) : exec (.srlMemIdx x d) s = execSrlMemIdx x d s := rfl
theorem exec_srlMemIdxCopy (x : Idx) (d : Byte) (r : Reg8) (s : State) :
    exec (.srlMemIdxCopy x d r) s = execSrlMemIdxCopy x d r s := rfl
theorem exec_bitReg (b : BitVec 3) (r : Reg8) (s : State) : exec (.bitReg b r) s = execBitReg b r s := rfl
theorem exec_bitMemHl (b : BitVec 3) (s : State) : exec (.bitMemHl b) s = execBitMemHl b s := rfl
theorem exec_bitMemIdx (x : Idx) (d : Byte) (b : BitVec 3) (z : BitVec 3) (s : State) :
    exec (.bitMemIdx x d b z) s = execBitMemIdx x d b z s := rfl
theorem exec_resReg (b : BitVec 3) (r : Reg8) (s : State) : exec (.resReg b r) s = execResReg b r s := rfl
theorem exec_resMemHl (b : BitVec 3) (s : State) : exec (.resMemHl b) s = execResMemHl b s := rfl
theorem exec_resMemIdx (x : Idx) (d : Byte) (b : BitVec 3) (s : State) :
    exec (.resMemIdx x d b) s = execResMemIdx x d b s := rfl
theorem exec_resMemIdxCopy (x : Idx) (d : Byte) (b : BitVec 3) (r : Reg8) (s : State) :
    exec (.resMemIdxCopy x d b r) s = execResMemIdxCopy x d b r s := rfl
theorem exec_setReg (b : BitVec 3) (r : Reg8) (s : State) : exec (.setReg b r) s = execSetReg b r s := rfl
theorem exec_setMemHl (b : BitVec 3) (s : State) : exec (.setMemHl b) s = execSetMemHl b s := rfl
theorem exec_setMemIdx (x : Idx) (d : Byte) (b : BitVec 3) (s : State) :
    exec (.setMemIdx x d b) s = execSetMemIdx x d b s := rfl
theorem exec_setMemIdxCopy (x : Idx) (d : Byte) (b : BitVec 3) (r : Reg8) (s : State) :
    exec (.setMemIdxCopy x d b r) s = execSetMemIdxCopy x d b r s := rfl
theorem exec_inRegC (r : Reg8) (s : State) : exec (.inRegC r) s = execInRegC r s := rfl
theorem exec_inFC (s : State) : exec (.inFC) s = execInFC s := rfl
theorem exec_outCReg (r : Reg8) (s : State) : exec (.outCReg r) s = execOutCReg r s := rfl
theorem exec_outCZero (s : State) : exec (.outCZero) s = execOutCZero s := rfl
theorem exec_sbcHlPair (p : Pair) (s : State) : exec (.sbcHlPair p) s = execSbcHlPair p s := rfl
theorem exec_adcHlPair (p : Pair) (s : State) : exec (.adcHlPair p) s = execAdcHlPair p s := rfl
theorem exec_ldMemNnPair (p : Pair) (nn : Word) (s : State) :
    exec (.ldMemNnPair p nn) s = execLdMemNnPair p nn s := rfl
theorem exec_ldPairMemNn (p : Pair) (nn : Word) (s : State) :
    exec (.ldPairMemNn p nn) s = execLdPairMemNn p nn s := rfl
theorem exec_neg (z : BitVec 3) (s : State) : exec (.neg z) s = execNeg z s := rfl
theorem exec_retn (z : BitVec 3) (s : State) : exec (.retn z) s = execRetn z s := rfl
theorem exec_reti (s : State) : exec (.reti) s = execReti s := rfl
theorem exec_im0 (z : BitVec 1) (z2 : BitVec 1) (s : State) : exec (.im0 z z2) s = execIm0 z z2 s := rfl
theorem exec_im1 (z : BitVec 1) (s : State) : exec (.im1 z) s = execIm1 z s := rfl
theorem exec_im2 (z : BitVec 1) (s : State) : exec (.im2 z) s = execIm2 z s := rfl
theorem exec_ldIA (s : State) : exec (.ldIA) s = execLdIA s := rfl
theorem exec_ldRA (s : State) : exec (.ldRA) s = execLdRA s := rfl
theorem exec_ldAI (s : State) : exec (.ldAI) s = execLdAI s := rfl
theorem exec_ldAR (s : State) : exec (.ldAR) s = execLdAR s := rfl
theorem exec_rrd (s : State) : exec (.rrd) s = execRrd s := rfl
theorem exec_rld (s : State) : exec (.rld) s = execRld s := rfl
theorem exec_ldi (s : State) : exec (.ldi) s = execLdi s := rfl
theorem exec_cpi (s : State) : exec (.cpi) s = execCpi s := rfl
theorem exec_ini (s : State) : exec (.ini) s = execIni s := rfl
theorem exec_outi (s : State) : exec (.outi) s = execOuti s := rfl
theorem exec_ldd (s : State) : exec (.ldd) s = execLdd s := rfl
theorem exec_cpd (s : State) : exec (.cpd) s = execCpd s := rfl
theorem exec_ind (s : State) : exec (.ind) s = execInd s := rfl
theorem exec_outd (s : State) : exec (.outd) s = execOutd s := rfl
theorem exec_ldir (s : State) : exec (.ldir) s = execLdir s := rfl
theorem exec_cpir (s : State) : exec (.cpir) s = execCpir s := rfl
theorem exec_inir (s : State) : exec (.inir) s = execInir s := rfl
theorem exec_otir (s : State) : exec (.otir) s = execOtir s := rfl
theorem exec_lddr (s : State) : exec (.lddr) s = execLddr s := rfl
theorem exec_cpdr (s : State) : exec (.cpdr) s = execCpdr s := rfl
theorem exec_indr (s : State) : exec (.indr) s = execIndr s := rfl
theorem exec_otdr (s : State) : exec (.otdr) s = execOtdr s := rfl
theorem exec_nopEdLow (z : BitVec 6) (s : State) : exec (.nopEdLow z) s = execNopEdLow z s := rfl
theorem exec_nopEdHigh (z : BitVec 6) (s : State) : exec (.nopEdHigh z) s = execNopEdHigh z s := rfl
theorem exec_nopEdMid (z : BitVec 5) (s : State) : exec (.nopEdMid z) s = execNopEdMid z s := rfl
theorem exec_nopEdBlock (z : BitVec 2) (z2 : BitVec 2) (s : State) :
    exec (.nopEdBlock z z2) s = execNopEdBlock z z2 s := rfl
theorem exec_nopEdSeven (z : BitVec 1) (s : State) : exec (.nopEdSeven z) s = execNopEdSeven z s := rfl
theorem exec_addIdxPair (x : Idx) (p : Pair) (s : State) : exec (.addIdxPair x p) s = execAddIdxPair x p s := rfl
theorem exec_ldIdxImm (x : Idx) (nn : Word) (s : State) : exec (.ldIdxImm x nn) s = execLdIdxImm x nn s := rfl
theorem exec_ldMemNnIdx (x : Idx) (nn : Word) (s : State) : exec (.ldMemNnIdx x nn) s = execLdMemNnIdx x nn s := rfl
theorem exec_incIdx (x : Idx) (s : State) : exec (.incIdx x) s = execIncIdx x s := rfl
theorem exec_incHalf (x : Idx) (h : Half) (s : State) : exec (.incHalf x h) s = execIncHalf x h s := rfl
theorem exec_decHalf (x : Idx) (h : Half) (s : State) : exec (.decHalf x h) s = execDecHalf x h s := rfl
theorem exec_ldHalfImm (x : Idx) (h : Half) (n : Byte) (s : State) :
    exec (.ldHalfImm x h n) s = execLdHalfImm x h n s := rfl
theorem exec_ldIdxMemNn (x : Idx) (nn : Word) (s : State) : exec (.ldIdxMemNn x nn) s = execLdIdxMemNn x nn s := rfl
theorem exec_decIdx (x : Idx) (s : State) : exec (.decIdx x) s = execDecIdx x s := rfl
theorem exec_incMemIdx (x : Idx) (d : Byte) (s : State) : exec (.incMemIdx x d) s = execIncMemIdx x d s := rfl
theorem exec_decMemIdx (x : Idx) (d : Byte) (s : State) : exec (.decMemIdx x d) s = execDecMemIdx x d s := rfl
theorem exec_ldMemIdxImm (x : Idx) (d : Byte) (n : Byte) (s : State) :
    exec (.ldMemIdxImm x d n) s = execLdMemIdxImm x d n s := rfl
theorem exec_ldRegHalf (x : Idx) (r : Reg8) (h : Half) (s : State) :
    exec (.ldRegHalf x r h) s = execLdRegHalf x r h s := rfl
theorem exec_ldHalfReg (x : Idx) (h : Half) (r : Reg8) (s : State) :
    exec (.ldHalfReg x h r) s = execLdHalfReg x h r s := rfl
theorem exec_ldHalfHalf (x : Idx) (h : Half) (k : Half) (s : State) :
    exec (.ldHalfHalf x h k) s = execLdHalfHalf x h k s := rfl
theorem exec_ldRegMemIdx (x : Idx) (r : Reg8) (d : Byte) (s : State) :
    exec (.ldRegMemIdx x r d) s = execLdRegMemIdx x r d s := rfl
theorem exec_ldMemIdxReg (x : Idx) (r : Reg8) (d : Byte) (s : State) :
    exec (.ldMemIdxReg x r d) s = execLdMemIdxReg x r d s := rfl
theorem exec_popIdx (x : Idx) (s : State) : exec (.popIdx x) s = execPopIdx x s := rfl
theorem exec_exMemSpIdx (x : Idx) (s : State) : exec (.exMemSpIdx x) s = execExMemSpIdx x s := rfl
theorem exec_pushIdx (x : Idx) (s : State) : exec (.pushIdx x) s = execPushIdx x s := rfl
theorem exec_jpIdx (x : Idx) (s : State) : exec (.jpIdx x) s = execJpIdx x s := rfl
theorem exec_ldSpIdx (x : Idx) (s : State) : exec (.ldSpIdx x) s = execLdSpIdx x s := rfl
theorem exec_nopPrefix (x : Idx) (s : State) : exec (.nopPrefix x) s = execNopPrefix x s := rfl

end Sys2Proof.Machine
end

