-- ==== Sys2Proof/Laws/State.lean ====
section
/-! SUPPORT. One lemma per field per update of the state, so that no proof unfolds a record update. -/

namespace Sys2Proof.Machine

namespace State

@[simp] theorem set_iff1 (s : State) (r : Reg16) (v : Word) : (s.set r v).iff1 = s.iff1 := rfl
@[simp] theorem set_iff2 (s : State) (r : Reg16) (v : Word) : (s.set r v).iff2 = s.iff2 := rfl
@[simp] theorem set_im (s : State) (r : Reg16) (v : Word) : (s.set r v).im = s.im := rfl
@[simp] theorem set_intPending (s : State) (r : Reg16) (v : Word) : (s.set r v).intPending = s.intPending := rfl
@[simp] theorem set_intDeadline (s : State) (r : Reg16) (v : Word) : (s.set r v).intDeadline = s.intDeadline := rfl
@[simp] theorem set_intInhibit (s : State) (r : Reg16) (v : Word) : (s.set r v).intInhibit = s.intInhibit := rfl
@[simp] theorem set_halted (s : State) (r : Reg16) (v : Word) : (s.set r v).halted = s.halted := rfl
@[simp] theorem set_clock (s : State) (r : Reg16) (v : Word) : (s.set r v).clock = s.clock := rfl
@[simp] theorem set_fatal (s : State) (r : Reg16) (v : Word) : (s.set r v).fatal = s.fatal := rfl
@[simp] theorem set_mem (s : State) (r : Reg16) (v : Word) : (s.set r v).mem = s.mem := rfl
@[simp] theorem set_params (s : State) (r : Reg16) (v : Word) : (s.set r v).params = s.params := rfl
@[simp] theorem set_irqQueue (s : State) (r : Reg16) (v : Word) : (s.set r v).irqQueue = s.irqQueue := rfl
@[simp] theorem set_portIn (s : State) (r : Reg16) (v : Word) : (s.set r v).portIn = s.portIn := rfl
@[simp] theorem set_portLog (s : State) (r : Reg16) (v : Word) : (s.set r v).portLog = s.portLog := rfl
@[simp] theorem set_draws (s : State) (r : Reg16) (v : Word) : (s.set r v).draws = s.draws := rfl
@[simp] theorem set_report (s : State) (r : Reg16) (v : Word) : (s.set r v).report = s.report := rfl
@[simp] theorem set_readByte (s : State) (r : Reg16) (v : Word) (a : Word) : (s.set r v).readByte a = s.readByte a := rfl

@[simp] theorem tick_regs (s : State) (n : Nat) : (s.tick n).regs = s.regs := rfl
@[simp] theorem tick_iff1 (s : State) (n : Nat) : (s.tick n).iff1 = s.iff1 := rfl
@[simp] theorem tick_iff2 (s : State) (n : Nat) : (s.tick n).iff2 = s.iff2 := rfl
@[simp] theorem tick_im (s : State) (n : Nat) : (s.tick n).im = s.im := rfl
@[simp] theorem tick_intPending (s : State) (n : Nat) : (s.tick n).intPending = s.intPending := rfl
@[simp] theorem tick_intDeadline (s : State) (n : Nat) : (s.tick n).intDeadline = s.intDeadline := rfl
@[simp] theorem tick_intInhibit (s : State) (n : Nat) : (s.tick n).intInhibit = s.intInhibit := rfl
@[simp] theorem tick_halted (s : State) (n : Nat) : (s.tick n).halted = s.halted := rfl
@[simp] theorem tick_fatal (s : State) (n : Nat) : (s.tick n).fatal = s.fatal := rfl
@[simp] theorem tick_mem (s : State) (n : Nat) : (s.tick n).mem = s.mem := rfl
@[simp] theorem tick_params (s : State) (n : Nat) : (s.tick n).params = s.params := rfl
@[simp] theorem tick_irqQueue (s : State) (n : Nat) : (s.tick n).irqQueue = s.irqQueue := rfl
@[simp] theorem tick_portIn (s : State) (n : Nat) : (s.tick n).portIn = s.portIn := rfl
@[simp] theorem tick_portLog (s : State) (n : Nat) : (s.tick n).portLog = s.portLog := rfl
@[simp] theorem tick_draws (s : State) (n : Nat) : (s.tick n).draws = s.draws := rfl
@[simp] theorem tick_report (s : State) (n : Nat) : (s.tick n).report = s.report := rfl
@[simp] theorem tick_get (s : State) (n : Nat) (g : Reg16) : (s.tick n).get g = s.get g := rfl
@[simp] theorem tick_readByte (s : State) (n : Nat) (a : Word) : (s.tick n).readByte a = s.readByte a := rfl

@[simp] theorem portRead_regs (s : State) (p u : Byte) : (s.portRead p u).regs = s.regs := rfl
@[simp] theorem portRead_iff1 (s : State) (p u : Byte) : (s.portRead p u).iff1 = s.iff1 := rfl
@[simp] theorem portRead_iff2 (s : State) (p u : Byte) : (s.portRead p u).iff2 = s.iff2 := rfl
@[simp] theorem portRead_im (s : State) (p u : Byte) : (s.portRead p u).im = s.im := rfl
@[simp] theorem portRead_intPending (s : State) (p u : Byte) : (s.portRead p u).intPending = s.intPending := rfl
@[simp] theorem portRead_intDeadline (s : State) (p u : Byte) : (s.portRead p u).intDeadline = s.intDeadline := rfl
@[simp] theorem portRead_intInhibit (s : State) (p u : Byte) : (s.portRead p u).intInhibit = s.intInhibit := rfl
@[simp] theorem portRead_halted (s : State) (p u : Byte) : (s.portRead p u).halted = s.halted := rfl
@[simp] theorem portRead_clock (s : State) (p u : Byte) : (s.portRead p u).clock = s.clock := rfl
@[simp] theorem portRead_fatal (s : State) (p u : Byte) : (s.portRead p u).fatal = s.fatal := rfl
@[simp] theorem portRead_mem (s : State) (p u : Byte) : (s.portRead p u).mem = s.mem := rfl
@[simp] theorem portRead_params (s : State) (p u : Byte) : (s.portRead p u).params = s.params := rfl
@[simp] theorem portRead_irqQueue (s : State) (p u : Byte) : (s.portRead p u).irqQueue = s.irqQueue := rfl
@[simp] theorem portRead_draws (s : State) (p u : Byte) : (s.portRead p u).draws = s.draws := rfl
@[simp] theorem portRead_report (s : State) (p u : Byte) : (s.portRead p u).report = s.report := rfl
@[simp] theorem portRead_get (s : State) (p u : Byte) (g : Reg16) : (s.portRead p u).get g = s.get g := rfl
@[simp] theorem portRead_readByte (s : State) (p u : Byte) (a : Word) : (s.portRead p u).readByte a = s.readByte a := rfl

@[simp] theorem portWrite_regs (s : State) (p u v : Byte) : (s.portWrite p u v).regs = s.regs := rfl
@[simp] theorem portWrite_iff1 (s : State) (p u v : Byte) : (s.portWrite p u v).iff1 = s.iff1 := rfl
@[simp] theorem portWrite_iff2 (s : State) (p u v : Byte) : (s.portWrite p u v).iff2 = s.iff2 := rfl
@[simp] theorem portWrite_im (s : State) (p u v : Byte) : (s.portWrite p u v).im = s.im := rfl
@[simp] theorem portWrite_intPending (s : State) (p u v : Byte) : (s.portWrite p u v).intPending = s.intPending := rfl
@[simp] theorem portWrite_intDeadline (s : State) (p u v : Byte) : (s.portWrite p u v).intDeadline = s.intDeadline := rfl
@[simp] theorem portWrite_intInhibit (s : State) (p u v : Byte) : (s.portWrite p u v).intInhibit = s.intInhibit := rfl
@[simp] theorem portWrite_halted (s : State) (p u v : Byte) : (s.portWrite p u v).halted = s.halted := rfl
@[simp] theorem portWrite_clock (s : State) (p u v : Byte) : (s.portWrite p u v).clock = s.clock := rfl
@[simp] theorem portWrite_fatal (s : State) (p u v : Byte) : (s.portWrite p u v).fatal = s.fatal := rfl
@[simp] theorem portWrite_mem (s : State) (p u v : Byte) : (s.portWrite p u v).mem = s.mem := rfl
@[simp] theorem portWrite_params (s : State) (p u v : Byte) : (s.portWrite p u v).params = s.params := rfl
@[simp] theorem portWrite_irqQueue (s : State) (p u v : Byte) : (s.portWrite p u v).irqQueue = s.irqQueue := rfl
@[simp] theorem portWrite_portIn (s : State) (p u v : Byte) : (s.portWrite p u v).portIn = s.portIn := rfl
@[simp] theorem portWrite_draws (s : State) (p u v : Byte) : (s.portWrite p u v).draws = s.draws := rfl
@[simp] theorem portWrite_report (s : State) (p u v : Byte) : (s.portWrite p u v).report = s.report := rfl
@[simp] theorem portWrite_get (s : State) (p u v : Byte) (g : Reg16) : (s.portWrite p u v).get g = s.get g := rfl
@[simp] theorem portWrite_readByte (s : State) (p u v : Byte) (a : Word) : (s.portWrite p u v).readByte a = s.readByte a := rfl

@[simp] theorem drawDone_regs (s : State) : (s.drawDone).regs = s.regs := rfl
@[simp] theorem drawDone_iff1 (s : State) : (s.drawDone).iff1 = s.iff1 := rfl
@[simp] theorem drawDone_iff2 (s : State) : (s.drawDone).iff2 = s.iff2 := rfl
@[simp] theorem drawDone_im (s : State) : (s.drawDone).im = s.im := rfl
@[simp] theorem drawDone_intPending (s : State) : (s.drawDone).intPending = s.intPending := rfl
@[simp] theorem drawDone_intDeadline (s : State) : (s.drawDone).intDeadline = s.intDeadline := rfl
@[simp] theorem drawDone_intInhibit (s : State) : (s.drawDone).intInhibit = s.intInhibit := rfl
@[simp] theorem drawDone_halted (s : State) : (s.drawDone).halted = s.halted := rfl
@[simp] theorem drawDone_clock (s : State) : (s.drawDone).clock = s.clock := rfl
@[simp] theorem drawDone_fatal (s : State) : (s.drawDone).fatal = s.fatal := rfl
@[simp] theorem drawDone_mem (s : State) : (s.drawDone).mem = s.mem := rfl
@[simp] theorem drawDone_params (s : State) : (s.drawDone).params = s.params := rfl
@[simp] theorem drawDone_irqQueue (s : State) : (s.drawDone).irqQueue = s.irqQueue := rfl
@[simp] theorem drawDone_portIn (s : State) : (s.drawDone).portIn = s.portIn := rfl
@[simp] theorem drawDone_portLog (s : State) : (s.drawDone).portLog = s.portLog := rfl
@[simp] theorem drawDone_report (s : State) : (s.drawDone).report = s.report := rfl
@[simp] theorem drawDone_get (s : State) (g : Reg16) : (s.drawDone).get g = s.get g := rfl
@[simp] theorem drawDone_readByte (s : State) (a : Word) : (s.drawDone).readByte a = s.readByte a := rfl

@[simp] theorem reporting_regs (s : State) (p : Option StepReport) : (s.reporting p).regs = s.regs := rfl
@[simp] theorem reporting_iff1 (s : State) (p : Option StepReport) : (s.reporting p).iff1 = s.iff1 := rfl
@[simp] theorem reporting_iff2 (s : State) (p : Option StepReport) : (s.reporting p).iff2 = s.iff2 := rfl
@[simp] theorem reporting_im (s : State) (p : Option StepReport) : (s.reporting p).im = s.im := rfl
@[simp] theorem reporting_intPending (s : State) (p : Option StepReport) : (s.reporting p).intPending = s.intPending := rfl
@[simp] theorem reporting_intDeadline (s : State) (p : Option StepReport) : (s.reporting p).intDeadline = s.intDeadline := rfl
@[simp] theorem reporting_intInhibit (s : State) (p : Option StepReport) : (s.reporting p).intInhibit = s.intInhibit := rfl
@[simp] theorem reporting_halted (s : State) (p : Option StepReport) : (s.reporting p).halted = s.halted := rfl
@[simp] theorem reporting_clock (s : State) (p : Option StepReport) : (s.reporting p).clock = s.clock := rfl
@[simp] theorem reporting_fatal (s : State) (p : Option StepReport) : (s.reporting p).fatal = s.fatal := rfl
@[simp] theorem reporting_mem (s : State) (p : Option StepReport) : (s.reporting p).mem = s.mem := rfl
@[simp] theorem reporting_params (s : State) (p : Option StepReport) : (s.reporting p).params = s.params := rfl
@[simp] theorem reporting_irqQueue (s : State) (p : Option StepReport) : (s.reporting p).irqQueue = s.irqQueue := rfl
@[simp] theorem reporting_portIn (s : State) (p : Option StepReport) : (s.reporting p).portIn = s.portIn := rfl
@[simp] theorem reporting_portLog (s : State) (p : Option StepReport) : (s.reporting p).portLog = s.portLog := rfl
@[simp] theorem reporting_draws (s : State) (p : Option StepReport) : (s.reporting p).draws = s.draws := rfl
@[simp] theorem reporting_get (s : State) (p : Option StepReport) (g : Reg16) : (s.reporting p).get g = s.get g := rfl
@[simp] theorem reporting_readByte (s : State) (p : Option StepReport) (a : Word) : (s.reporting p).readByte a = s.readByte a := rfl

@[simp] theorem tick_clock (s : State) (n : Nat) : (s.tick n).clock = s.clock + n := rfl
@[simp] theorem reporting_report (s : State) (p : Option StepReport) : (s.reporting p).report = p := rfl
@[simp] theorem reporting_reporting (s : State) (p q : Option StepReport) :
    (s.reporting p).reporting q = s.reporting q := rfl
@[simp] theorem drawDone_draws (s : State) : s.drawDone.draws = s.draws + 1 := rfl
@[simp] theorem portRead_portIn (s : State) (p u : Byte) : (s.portRead p u).portIn = s.portIn.tail := rfl
@[simp] theorem portRead_portLog (s : State) (p u : Byte) :
    (s.portRead p u).portLog = .read p u (s.portValue p u) :: s.portLog := rfl
@[simp] theorem portWrite_portLog (s : State) (p u v : Byte) :
    (s.portWrite p u v).portLog = .write p u v :: s.portLog := rfl
@[simp] theorem set_portValue (s : State) (r : Reg16) (v : Word) (p u : Byte) :
    (s.set r v).portValue p u = s.portValue p u := rfl

/-- A byte store changes memory only. -/
theorem writeByte_eq (s : State) (a : Word) (v : Byte) :
    s.writeByte a v = { s with mem := if Params.writable s.params a.toNat then Memory.write s.mem a.toNat v else s.mem } := by
  unfold writeByte; split <;> rfl

@[simp] theorem writeByte_regs (s : State) (a : Word) (v : Byte) : (s.writeByte a v).regs = s.regs := by
  rw [writeByte_eq]
@[simp] theorem writeByte_iff1 (s : State) (a : Word) (v : Byte) : (s.writeByte a v).iff1 = s.iff1 := by
  rw [writeByte_eq]
@[simp] theorem writeByte_iff2 (s : State) (a : Word) (v : Byte) : (s.writeByte a v).iff2 = s.iff2 := by
  rw [writeByte_eq]
@[simp] theorem writeByte_im (s : State) (a : Word) (v : Byte) : (s.writeByte a v).im = s.im := by
  rw [writeByte_eq]
@[simp] theorem writeByte_intPending (s : State) (a : Word) (v : Byte) : (s.writeByte a v).intPending = s.intPending := by
  rw [writeByte_eq]
@[simp] theorem writeByte_intDeadline (s : State) (a : Word) (v : Byte) : (s.writeByte a v).intDeadline = s.intDeadline := by
  rw [writeByte_eq]
@[simp] theorem writeByte_intInhibit (s : State) (a : Word) (v : Byte) : (s.writeByte a v).intInhibit = s.intInhibit := by
  rw [writeByte_eq]
@[simp] theorem writeByte_halted (s : State) (a : Word) (v : Byte) : (s.writeByte a v).halted = s.halted := by
  rw [writeByte_eq]
@[simp] theorem writeByte_clock (s : State) (a : Word) (v : Byte) : (s.writeByte a v).clock = s.clock := by
  rw [writeByte_eq]
@[simp] theorem writeByte_fatal (s : State) (a : Word) (v : Byte) : (s.writeByte a v).fatal = s.fatal := by
  rw [writeByte_eq]
@[simp] theorem writeByte_params (s : State) (a : Word) (v : Byte) : (s.writeByte a v).params = s.params := by
  rw [writeByte_eq]
@[simp] theorem writeByte_irqQueue (s : State) (a : Word) (v : Byte) : (s.writeByte a v).irqQueue = s.irqQueue := by
  rw [writeByte_eq]
@[simp] theorem writeByte_portIn (s : State) (a : Word) (v : Byte) : (s.writeByte a v).portIn = s.portIn := by
  rw [writeByte_eq]
@[simp] theorem writeByte_portLog (s : State) (a : Word) (v : Byte) : (s.writeByte a v).portLog = s.portLog := by
  rw [writeByte_eq]
@[simp] theorem writeByte_draws (s : State) (a : Word) (v : Byte) : (s.writeByte a v).draws = s.draws := by
  rw [writeByte_eq]
@[simp] theorem writeByte_report (s : State) (a : Word) (v : Byte) : (s.writeByte a v).report = s.report := by
  rw [writeByte_eq]
@[simp] theorem writeByte_get (s : State) (a : Word) (v : Byte) (g : Reg16) : (s.writeByte a v).get g = s.get g := by
  rw [writeByte_eq]; rfl
@[simp] theorem writeByte_portValue (s : State) (a : Word) (v p u : Byte) :
    (s.writeByte a v).portValue p u = s.portValue p u := by
  rw [writeByte_eq]; rfl

/-! ## Registers -/

@[simp] theorem get_set_self (s : State) (r : Reg16) (v : Word) : (s.set r v).get r = v := by cases r <;> rfl

@[simp] theorem get_set_ne (s : State) {r g : Reg16} (h : r ≠ g) (v : Word) : (s.set r v).get g = s.get g := by
  cases r <;> cases g <;> first | rfl | exact absurd rfl h

theorem get_set (s : State) (r g : Reg16) (v : Word) : (s.set r v).get g = if r = g then v else s.get g := by
  by_cases h : r = g
  · subst h; simp
  · simp [h, get_set_ne s h v]

/-- A register written with its own value. -/
@[simp] theorem set_get_self (s : State) (r : Reg16) : s.set r (s.get r) = s := by cases r <;> rfl

/-- Two writes of one register. -/
@[simp] theorem set_set (s : State) (r : Reg16) (v w : Word) : (s.set r v).set r w = s.set r w := by cases r <;> rfl

/-- Writes of two registers, in either order. -/
theorem set_comm (s : State) {r g : Reg16} (h : r ≠ g) (v w : Word) :
    (s.set r v).set g w = (s.set g w).set r v := by
  cases r <;> cases g <;> first | rfl | exact absurd rfl h

/-! ## Halves (R101), and the 8-bit names -/

theorem a_eq (s : State) : hi (s.get .af) = s.a := rfl
theorem f_eq (s : State) : lo (s.get .af) = s.f := rfl
theorem i_eq (s : State) : hi (s.get .ir) = s.i := rfl
theorem r_eq (s : State) : lo (s.get .ir) = s.r := rfl

/-- A half written: that half reads the value, the other half is kept. -/
theorem getHalf_setHalf (s : State) (g g2 : Reg16) (h h2 : Half) (v : Byte) :
    (s.setHalf g h v).getHalf g2 h2 = if g = g2 ∧ h = h2 then v else s.getHalf g2 h2 := by
  cases h <;> cases h2 <;> by_cases e : g = g2 <;> simp [setHalf, getHalf, setHi, setLo, e]

theorem reg8_setReg8 (s : State) (r q : Reg8) (v : Byte) :
    (s.setReg8 r v).reg8 q = if q = r then v else s.reg8 q := by
  unfold setReg8 reg8
  rw [getHalf_setHalf]
  cases r <;> cases q <;> simp [reg8Home, reg8Half]

/-! ## The writes of halves touch the register file only -/

@[simp] theorem setHi_iff1 (s : State) (g : Reg16) (v : Byte) : (s.setHi g v).iff1 = s.iff1 := rfl
@[simp] theorem setHi_iff2 (s : State) (g : Reg16) (v : Byte) : (s.setHi g v).iff2 = s.iff2 := rfl
@[simp] theorem setHi_im (s : State) (g : Reg16) (v : Byte) : (s.setHi g v).im = s.im := rfl
@[simp] theorem setHi_intPending (s : State) (g : Reg16) (v : Byte) : (s.setHi g v).intPending = s.intPending := rfl
@[simp] theorem setHi_intDeadline (s : State) (g : Reg16) (v : Byte) : (s.setHi g v).intDeadline = s.intDeadline := rfl
@[simp] theorem setHi_intInhibit (s : State) (g : Reg16) (v : Byte) : (s.setHi g v).intInhibit = s.intInhibit := rfl
@[simp] theorem setHi_halted (s : State) (g : Reg16) (v : Byte) : (s.setHi g v).halted = s.halted := rfl
@[simp] theorem setHi_clock (s : State) (g : Reg16) (v : Byte) : (s.setHi g v).clock = s.clock := rfl
@[simp] theorem setHi_fatal (s : State) (g : Reg16) (v : Byte) : (s.setHi g v).fatal = s.fatal := rfl
@[simp] theorem setHi_mem (s : State) (g : Reg16) (v : Byte) : (s.setHi g v).mem = s.mem := rfl
@[simp] theorem setHi_params (s : State) (g : Reg16) (v : Byte) : (s.setHi g v).params = s.params := rfl
@[simp] theorem setHi_irqQueue (s : State) (g : Reg16) (v : Byte) : (s.setHi g v).irqQueue = s.irqQueue := rfl
@[simp] theorem setHi_portIn (s : State) (g : Reg16) (v : Byte) : (s.setHi g v).portIn = s.portIn := rfl
@[simp] theorem setHi_portLog (s : State) (g : Reg16) (v : Byte) : (s.setHi g v).portLog = s.portLog := rfl
@[simp] theorem setHi_draws (s : State) (g : Reg16) (v : Byte) : (s.setHi g v).draws = s.draws := rfl
@[simp] theorem setHi_report (s : State) (g : Reg16) (v : Byte) : (s.setHi g v).report = s.report := rfl
@[simp] theorem setHi_readByte (s : State) (g : Reg16) (v : Byte) (a : Word) : (s.setHi g v).readByte a = s.readByte a := rfl

@[simp] theorem setLo_iff1 (s : State) (g : Reg16) (v : Byte) : (s.setLo g v).iff1 = s.iff1 := rfl
@[simp] theorem setLo_iff2 (s : State) (g : Reg16) (v : Byte) : (s.setLo g v).iff2 = s.iff2 := rfl
@[simp] theorem setLo_im (s : State) (g : Reg16) (v : Byte) : (s.setLo g v).im = s.im := rfl
@[simp] theorem setLo_intPending (s : State) (g : Reg16) (v : Byte) : (s.setLo g v).intPending = s.intPending := rfl
@[simp] theorem setLo_intDeadline (s : State) (g : Reg16) (v : Byte) : (s.setLo g v).intDeadline = s.intDeadline := rfl
@[simp] theorem setLo_intInhibit (s : State) (g : Reg16) (v : Byte) : (s.setLo g v).intInhibit = s.intInhibit := rfl
@[simp] theorem setLo_halted (s : State) (g : Reg16) (v : Byte) : (s.setLo g v).halted = s.halted := rfl
@[simp] theorem setLo_clock (s : State) (g : Reg16) (v : Byte) : (s.setLo g v).clock = s.clock := rfl
@[simp] theorem setLo_fatal (s : State) (g : Reg16) (v : Byte) : (s.setLo g v).fatal = s.fatal := rfl
@[simp] theorem setLo_mem (s : State) (g : Reg16) (v : Byte) : (s.setLo g v).mem = s.mem := rfl
@[simp] theorem setLo_params (s : State) (g : Reg16) (v : Byte) : (s.setLo g v).params = s.params := rfl
@[simp] theorem setLo_irqQueue (s : State) (g : Reg16) (v : Byte) : (s.setLo g v).irqQueue = s.irqQueue := rfl
@[simp] theorem setLo_portIn (s : State) (g : Reg16) (v : Byte) : (s.setLo g v).portIn = s.portIn := rfl
@[simp] theorem setLo_portLog (s : State) (g : Reg16) (v : Byte) : (s.setLo g v).portLog = s.portLog := rfl
@[simp] theorem setLo_draws (s : State) (g : Reg16) (v : Byte) : (s.setLo g v).draws = s.draws := rfl
@[simp] theorem setLo_report (s : State) (g : Reg16) (v : Byte) : (s.setLo g v).report = s.report := rfl
@[simp] theorem setLo_readByte (s : State) (g : Reg16) (v : Byte) (a : Word) : (s.setLo g v).readByte a = s.readByte a := rfl

@[simp] theorem setA_iff1 (s : State) (v : Byte) : (s.setA v).iff1 = s.iff1 := rfl
@[simp] theorem setA_iff2 (s : State) (v : Byte) : (s.setA v).iff2 = s.iff2 := rfl
@[simp] theorem setA_im (s : State) (v : Byte) : (s.setA v).im = s.im := rfl
@[simp] theorem setA_intPending (s : State) (v : Byte) : (s.setA v).intPending = s.intPending := rfl
@[simp] theorem setA_intDeadline (s : State) (v : Byte) : (s.setA v).intDeadline = s.intDeadline := rfl
@[simp] theorem setA_intInhibit (s : State) (v : Byte) : (s.setA v).intInhibit = s.intInhibit := rfl
@[simp] theorem setA_halted (s : State) (v : Byte) : (s.setA v).halted = s.halted := rfl
@[simp] theorem setA_clock (s : State) (v : Byte) : (s.setA v).clock = s.clock := rfl
@[simp] theorem setA_fatal (s : State) (v : Byte) : (s.setA v).fatal = s.fatal := rfl
@[simp] theorem setA_mem (s : State) (v : Byte) : (s.setA v).mem = s.mem := rfl
@[simp] theorem setA_params (s : State) (v : Byte) : (s.setA v).params = s.params := rfl
@[simp] theorem setA_irqQueue (s : State) (v : Byte) : (s.setA v).irqQueue = s.irqQueue := rfl
@[simp] theorem setA_portIn (s : State) (v : Byte) : (s.setA v).portIn = s.portIn := rfl
@[simp] theorem setA_portLog (s : State) (v : Byte) : (s.setA v).portLog = s.portLog := rfl
@[simp] theorem setA_draws (s : State) (v : Byte) : (s.setA v).draws = s.draws := rfl
@[simp] theorem setA_report (s : State) (v : Byte) : (s.setA v).report = s.report := rfl
@[simp] theorem setA_readByte (s : State) (v : Byte) (a : Word) : (s.setA v).readByte a = s.readByte a := rfl

@[simp] theorem setF_iff1 (s : State) (v : Byte) : (s.setF v).iff1 = s.iff1 := rfl
@[simp] theorem setF_iff2 (s : State) (v : Byte) : (s.setF v).iff2 = s.iff2 := rfl
@[simp] theorem setF_im (s : State) (v : Byte) : (s.setF v).im = s.im := rfl
@[simp] theorem setF_intPending (s : State) (v : Byte) : (s.setF v).intPending = s.intPending := rfl
@[simp] theorem setF_intDeadline (s : State) (v : Byte) : (s.setF v).intDeadline = s.intDeadline := rfl
@[simp] theorem setF_intInhibit (s : State) (v : Byte) : (s.setF v).intInhibit = s.intInhibit := rfl
@[simp] theorem setF_halted (s : State) (v : Byte) : (s.setF v).halted = s.halted := rfl
@[simp] theorem setF_clock (s : State) (v : Byte) : (s.setF v).clock = s.clock := rfl
@[simp] theorem setF_fatal (s : State) (v : Byte) : (s.setF v).fatal = s.fatal := rfl
@[simp] theorem setF_mem (s : State) (v : Byte) : (s.setF v).mem = s.mem := rfl
@[simp] theorem setF_params (s : State) (v : Byte) : (s.setF v).params = s.params := rfl
@[simp] theorem setF_irqQueue (s : State) (v : Byte) : (s.setF v).irqQueue = s.irqQueue := rfl
@[simp] theorem setF_portIn (s : State) (v : Byte) : (s.setF v).portIn = s.portIn := rfl
@[simp] theorem setF_portLog (s : State) (v : Byte) : (s.setF v).portLog = s.portLog := rfl
@[simp] theorem setF_draws (s : State) (v : Byte) : (s.setF v).draws = s.draws := rfl
@[simp] theorem setF_report (s : State) (v : Byte) : (s.setF v).report = s.report := rfl
@[simp] theorem setF_readByte (s : State) (v : Byte) (a : Word) : (s.setF v).readByte a = s.readByte a := rfl

@[simp] theorem setAF_iff1 (s : State) (v : Byte × Byte) : (s.setAF v).iff1 = s.iff1 := rfl
@[simp] theorem setAF_iff2 (s : State) (v : Byte × Byte) : (s.setAF v).iff2 = s.iff2 := rfl
@[simp] theorem setAF_im (s : State) (v : Byte × Byte) : (s.setAF v).im = s.im := rfl
@[simp] theorem setAF_intPending (s : State) (v : Byte × Byte) : (s.setAF v).intPending = s.intPending := rfl
@[simp] theorem setAF_intDeadline (s : State) (v : Byte × Byte) : (s.setAF v).intDeadline = s.intDeadline := rfl
@[simp] theorem setAF_intInhibit (s : State) (v : Byte × Byte) : (s.setAF v).intInhibit = s.intInhibit := rfl
@[simp] theorem setAF_halted (s : State) (v : Byte × Byte) : (s.setAF v).halted = s.halted := rfl
@[simp] theorem setAF_clock (s : State) (v : Byte × Byte) : (s.setAF v).clock = s.clock := rfl
@[simp] theorem setAF_fatal (s : State) (v : Byte × Byte) : (s.setAF v).fatal = s.fatal := rfl
@[simp] theorem setAF_mem (s : State) (v : Byte × Byte) : (s.setAF v).mem = s.mem := rfl
@[simp] theorem setAF_params (s : State) (v : Byte × Byte) : (s.setAF v).params = s.params := rfl
@[simp] theorem setAF_irqQueue (s : State) (v : Byte × Byte) : (s.setAF v).irqQueue = s.irqQueue := rfl
@[simp] theorem setAF_portIn (s : State) (v : Byte × Byte) : (s.setAF v).portIn = s.portIn := rfl
@[simp] theorem setAF_portLog (s : State) (v : Byte × Byte) : (s.setAF v).portLog = s.portLog := rfl
@[simp] theorem setAF_draws (s : State) (v : Byte × Byte) : (s.setAF v).draws = s.draws := rfl
@[simp] theorem setAF_report (s : State) (v : Byte × Byte) : (s.setAF v).report = s.report := rfl
@[simp] theorem setAF_readByte (s : State) (v : Byte × Byte) (a : Word) : (s.setAF v).readByte a = s.readByte a := rfl

@[simp] theorem setHalf_iff1 (s : State) (g : Reg16) (h : Half) (v : Byte) : (s.setHalf g h v).iff1 = s.iff1 := by cases h <;> rfl
@[simp] theorem setHalf_iff2 (s : State) (g : Reg16) (h : Half) (v : Byte) : (s.setHalf g h v).iff2 = s.iff2 := by cases h <;> rfl
@[simp] theorem setHalf_im (s : State) (g : Reg16) (h : Half) (v : Byte) : (s.setHalf g h v).im = s.im := by cases h <;> rfl
@[simp] theorem setHalf_intPending (s : State) (g : Reg16) (h : Half) (v : Byte) : (s.setHalf g h v).intPending = s.intPending := by cases h <;> rfl
@[simp] theorem setHalf_intDeadline (s : State) (g : Reg16) (h : Half) (v : Byte) : (s.setHalf g h v).intDeadline = s.intDeadline := by cases h <;> rfl
@[simp] theorem setHalf_intInhibit (s : State) (g : Reg16) (h : Half) (v : Byte) : (s.setHalf g h v).intInhibit = s.intInhibit := by cases h <;> rfl
@[simp] theorem setHalf_halted (s : State) (g : Reg16) (h : Half) (v : Byte) : (s.setHalf g h v).halted = s.halted := by cases h <;> rfl
@[simp] theorem setHalf_clock (s : State) (g : Reg16) (h : Half) (v : Byte) : (s.setHalf g h v).clock = s.clock := by cases h <;> rfl
@[simp] theorem setHalf_fatal (s : State) (g : Reg16) (h : Half) (v : Byte) : (s.setHalf g h v).fatal = s.fatal := by cases h <;> rfl
@[simp] theorem setHalf_mem (s : State) (g : Reg16) (h : Half) (v : Byte) : (s.setHalf g h v).mem = s.mem := by cases h <;> rfl
@[simp] theorem setHalf_params (s : State) (g : Reg16) (h : Half) (v : Byte) : (s.setHalf g h v).params = s.params := by cases h <;> rfl
@[simp] theorem setHalf_irqQueue (s : State) (g : Reg16) (h : Half) (v : Byte) : (s.setHalf g h v).irqQueue = s.irqQueue := by cases h <;> rfl
@[simp] theorem setHalf_portIn (s : State) (g : Reg16) (h : Half) (v : Byte) : (s.setHalf g h v).portIn = s.portIn := by cases h <;> rfl
@[simp] theorem setHalf_portLog (s : State) (g : Reg16) (h : Half) (v : Byte) : (s.setHalf g h v).portLog = s.portLog := by cases h <;> rfl
@[simp] theorem setHalf_draws (s : State) (g : Reg16) (h : Half) (v : Byte) : (s.setHalf g h v).draws = s.draws := by cases h <;> rfl
@[simp] theorem setHalf_report (s : State) (g : Reg16) (h : Half) (v : Byte) : (s.setHalf g h v).report = s.report := by cases h <;> rfl
@[simp] theorem setHalf_readByte (s : State) (g : Reg16) (h : Half) (v : Byte) (a : Word) : (s.setHalf g h v).readByte a = s.readByte a := by cases h <;> rfl

@[simp] theorem setReg8_iff1 (s : State) (r : Reg8) (v : Byte) : (s.setReg8 r v).iff1 = s.iff1 := by cases r <;> rfl
@[simp] theorem setReg8_iff2 (s : State) (r : Reg8) (v : Byte) : (s.setReg8 r v).iff2 = s.iff2 := by cases r <;> rfl
@[simp] theorem setReg8_im (s : State) (r : Reg8) (v : Byte) : (s.setReg8 r v).im = s.im := by cases r <;> rfl
@[simp] theorem setReg8_intPending (s : State) (r : Reg8) (v : Byte) : (s.setReg8 r v).intPending = s.intPending := by cases r <;> rfl
@[simp] theorem setReg8_intDeadline (s : State) (r : Reg8) (v : Byte) : (s.setReg8 r v).intDeadline = s.intDeadline := by cases r <;> rfl
@[simp] theorem setReg8_intInhibit (s : State) (r : Reg8) (v : Byte) : (s.setReg8 r v).intInhibit = s.intInhibit := by cases r <;> rfl
@[simp] theorem setReg8_halted (s : State) (r : Reg8) (v : Byte) : (s.setReg8 r v).halted = s.halted := by cases r <;> rfl
@[simp] theorem setReg8_clock (s : State) (r : Reg8) (v : Byte) : (s.setReg8 r v).clock = s.clock := by cases r <;> rfl
@[simp] theorem setReg8_fatal (s : State) (r : Reg8) (v : Byte) : (s.setReg8 r v).fatal = s.fatal := by cases r <;> rfl
@[simp] theorem setReg8_mem (s : State) (r : Reg8) (v : Byte) : (s.setReg8 r v).mem = s.mem := by cases r <;> rfl
@[simp] theorem setReg8_params (s : State) (r : Reg8) (v : Byte) : (s.setReg8 r v).params = s.params := by cases r <;> rfl
@[simp] theorem setReg8_irqQueue (s : State) (r : Reg8) (v : Byte) : (s.setReg8 r v).irqQueue = s.irqQueue := by cases r <;> rfl
@[simp] theorem setReg8_portIn (s : State) (r : Reg8) (v : Byte) : (s.setReg8 r v).portIn = s.portIn := by cases r <;> rfl
@[simp] theorem setReg8_portLog (s : State) (r : Reg8) (v : Byte) : (s.setReg8 r v).portLog = s.portLog := by cases r <;> rfl
@[simp] theorem setReg8_draws (s : State) (r : Reg8) (v : Byte) : (s.setReg8 r v).draws = s.draws := by cases r <;> rfl
@[simp] theorem setReg8_report (s : State) (r : Reg8) (v : Byte) : (s.setReg8 r v).report = s.report := by cases r <;> rfl
@[simp] theorem setReg8_readByte (s : State) (r : Reg8) (v : Byte) (a : Word) : (s.setReg8 r v).readByte a = s.readByte a := by cases r <;> rfl

@[simp] theorem setXh_iff1 (s : State) (x : Idx) (h : Half) (v : Byte) : (s.setXh x h v).iff1 = s.iff1 := by cases h <;> rfl
@[simp] theorem setXh_iff2 (s : State) (x : Idx) (h : Half) (v : Byte) : (s.setXh x h v).iff2 = s.iff2 := by cases h <;> rfl
@[simp] theorem setXh_im (s : State) (x : Idx) (h : Half) (v : Byte) : (s.setXh x h v).im = s.im := by cases h <;> rfl
@[simp] theorem setXh_intPending (s : State) (x : Idx) (h : Half) (v : Byte) : (s.setXh x h v).intPending = s.intPending := by cases h <;> rfl
@[simp] theorem setXh_intDeadline (s : State) (x : Idx) (h : Half) (v : Byte) : (s.setXh x h v).intDeadline = s.intDeadline := by cases h <;> rfl
@[simp] theorem setXh_intInhibit (s : State) (x : Idx) (h : Half) (v : Byte) : (s.setXh x h v).intInhibit = s.intInhibit := by cases h <;> rfl
@[simp] theorem setXh_halted (s : State) (x : Idx) (h : Half) (v : Byte) : (s.setXh x h v).halted = s.halted := by cases h <;> rfl
@[simp] theorem setXh_clock (s : State) (x : Idx) (h : Half) (v : Byte) : (s.setXh x h v).clock = s.clock := by cases h <;> rfl
@[simp] theorem setXh_fatal (s : State) (x : Idx) (h : Half) (v : Byte) : (s.setXh x h v).fatal = s.fatal := by cases h <;> rfl
@[simp] theorem setXh_mem (s : State) (x : Idx) (h : Half) (v : Byte) : (s.setXh x h v).mem = s.mem := by cases h <;> rfl
@[simp] theorem setXh_params (s : State) (x : Idx) (h : Half) (v : Byte) : (s.setXh x h v).params = s.params := by cases h <;> rfl
@[simp] theorem setXh_irqQueue (s : State) (x : Idx) (h : Half) (v : Byte) : (s.setXh x h v).irqQueue = s.irqQueue := by cases h <;> rfl
@[simp] theorem setXh_portIn (s : State) (x : Idx) (h : Half) (v : Byte) : (s.setXh x h v).portIn = s.portIn := by cases h <;> rfl
@[simp] theorem setXh_portLog (s : State) (x : Idx) (h : Half) (v : Byte) : (s.setXh x h v).portLog = s.portLog := by cases h <;> rfl
@[simp] theorem setXh_draws (s : State) (x : Idx) (h : Half) (v : Byte) : (s.setXh x h v).draws = s.draws := by cases h <;> rfl
@[simp] theorem setXh_report (s : State) (x : Idx) (h : Half) (v : Byte) : (s.setXh x h v).report = s.report := by cases h <;> rfl
@[simp] theorem setXh_readByte (s : State) (x : Idx) (h : Half) (v : Byte) (a : Word) : (s.setXh x h v).readByte a = s.readByte a := by cases h <;> rfl

/-! ## Which registers they write -/

/-- A is the 8-bit register of that name. -/
theorem setA_eq (s : State) (v : Byte) : s.setA v = s.setReg8 .a v := rfl

theorem reg8_a (s : State) : s.reg8 .a = s.a := rfl

theorem get_setHi (s : State) (r g : Reg16) (v : Byte) :
    (s.setHi r v).get g = if r = g then w16 v (lo (s.get r)) else s.get g := get_set s r g _

theorem get_setLo (s : State) (r g : Reg16) (v : Byte) :
    (s.setLo r v).get g = if r = g then w16 (hi (s.get r)) v else s.get g := get_set s r g _

theorem get_setHalf_ne (s : State) {r g : Reg16} (hg : r ≠ g) (h : Half) (v : Byte) :
    (s.setHalf r h v).get g = s.get g := by cases h <;> exact get_set_ne s hg _

theorem get_setReg8_ne (s : State) (r : Reg8) (v : Byte) {g : Reg16} (hg : reg8Home r ≠ g) :
    (s.setReg8 r v).get g = s.get g := get_setHalf_ne s hg _ _

@[simp] theorem setReg8_get_pc (s : State) (r : Reg8) (v : Byte) : (s.setReg8 r v).get .pc = s.get .pc := by
  cases r <;> rfl

@[simp] theorem setReg8_get_ir (s : State) (r : Reg8) (v : Byte) : (s.setReg8 r v).get .ir = s.get .ir := by
  cases r <;> rfl

/-- A register of the main set and F are apart. -/
@[simp] theorem setReg8_f (s : State) (r : Reg8) (v : Byte) : (s.setReg8 r v).f = s.f := by
  cases r <;> simp [setReg8, setHalf, reg8Home, reg8Half, setHi, setLo, f]

@[simp] theorem setF_f (s : State) (v : Byte) : (s.setF v).f = v := by simp [setF, setLo, f]

@[simp] theorem setF_a (s : State) (v : Byte) : (s.setF v).a = s.a := by simp [setF, setLo, a]

@[simp] theorem setF_reg8 (s : State) (v : Byte) (r : Reg8) : (s.setF v).reg8 r = s.reg8 r := by
  cases r <;> simp [setF, setLo, reg8, getHalf, reg8Home, reg8Half]

@[simp] theorem setAF_f (s : State) (v : Byte × Byte) : (s.setAF v).f = v.2 := by simp [setAF, f]

@[simp] theorem setAF_a (s : State) (v : Byte × Byte) : (s.setAF v).a = v.1 := by simp [setAF, a]

/-! ## Registers apart from AF, and F and A in them -/

@[simp] theorem setA_get_bc (s : State) (v : Byte) : (s.setA v).get .bc = s.get .bc := rfl
@[simp] theorem setA_get_de (s : State) (v : Byte) : (s.setA v).get .de = s.get .de := rfl
@[simp] theorem setA_get_hl (s : State) (v : Byte) : (s.setA v).get .hl = s.get .hl := rfl
@[simp] theorem setA_get_shAf (s : State) (v : Byte) : (s.setA v).get .shAf = s.get .shAf := rfl
@[simp] theorem setA_get_shBc (s : State) (v : Byte) : (s.setA v).get .shBc = s.get .shBc := rfl
@[simp] theorem setA_get_shDe (s : State) (v : Byte) : (s.setA v).get .shDe = s.get .shDe := rfl
@[simp] theorem setA_get_shHl (s : State) (v : Byte) : (s.setA v).get .shHl = s.get .shHl := rfl
@[simp] theorem setA_get_ix (s : State) (v : Byte) : (s.setA v).get .ix = s.get .ix := rfl
@[simp] theorem setA_get_iy (s : State) (v : Byte) : (s.setA v).get .iy = s.get .iy := rfl
@[simp] theorem setA_get_sp (s : State) (v : Byte) : (s.setA v).get .sp = s.get .sp := rfl
@[simp] theorem setA_get_pc (s : State) (v : Byte) : (s.setA v).get .pc = s.get .pc := rfl
@[simp] theorem setA_get_ir (s : State) (v : Byte) : (s.setA v).get .ir = s.get .ir := rfl

@[simp] theorem setF_get_bc (s : State) (v : Byte) : (s.setF v).get .bc = s.get .bc := rfl
@[simp] theorem setF_get_de (s : State) (v : Byte) : (s.setF v).get .de = s.get .de := rfl
@[simp] theorem setF_get_hl (s : State) (v : Byte) : (s.setF v).get .hl = s.get .hl := rfl
@[simp] theorem setF_get_shAf (s : State) (v : Byte) : (s.setF v).get .shAf = s.get .shAf := rfl
@[simp] theorem setF_get_shBc (s : State) (v : Byte) : (s.setF v).get .shBc = s.get .shBc := rfl
@[simp] theorem setF_get_shDe (s : State) (v : Byte) : (s.setF v).get .shDe = s.get .shDe := rfl
@[simp] theorem setF_get_shHl (s : State) (v : Byte) : (s.setF v).get .shHl = s.get .shHl := rfl
@[simp] theorem setF_get_ix (s : State) (v : Byte) : (s.setF v).get .ix = s.get .ix := rfl
@[simp] theorem setF_get_iy (s : State) (v : Byte) : (s.setF v).get .iy = s.get .iy := rfl
@[simp] theorem setF_get_sp (s : State) (v : Byte) : (s.setF v).get .sp = s.get .sp := rfl
@[simp] theorem setF_get_pc (s : State) (v : Byte) : (s.setF v).get .pc = s.get .pc := rfl
@[simp] theorem setF_get_ir (s : State) (v : Byte) : (s.setF v).get .ir = s.get .ir := rfl

@[simp] theorem setAF_get_bc (s : State) (v : Byte × Byte) : (s.setAF v).get .bc = s.get .bc := rfl
@[simp] theorem setAF_get_de (s : State) (v : Byte × Byte) : (s.setAF v).get .de = s.get .de := rfl
@[simp] theorem setAF_get_hl (s : State) (v : Byte × Byte) : (s.setAF v).get .hl = s.get .hl := rfl
@[simp] theorem setAF_get_shAf (s : State) (v : Byte × Byte) : (s.setAF v).get .shAf = s.get .shAf := rfl
@[simp] theorem setAF_get_shBc (s : State) (v : Byte × Byte) : (s.setAF v).get .shBc = s.get .shBc := rfl
@[simp] theorem setAF_get_shDe (s : State) (v : Byte × Byte) : (s.setAF v).get .shDe = s.get .shDe := rfl
@[simp] theorem setAF_get_shHl (s : State) (v : Byte × Byte) : (s.setAF v).get .shHl = s.get .shHl := rfl
@[simp] theorem setAF_get_ix (s : State) (v : Byte × Byte) : (s.setAF v).get .ix = s.get .ix := rfl
@[simp] theorem setAF_get_iy (s : State) (v : Byte × Byte) : (s.setAF v).get .iy = s.get .iy := rfl
@[simp] theorem setAF_get_sp (s : State) (v : Byte × Byte) : (s.setAF v).get .sp = s.get .sp := rfl
@[simp] theorem setAF_get_pc (s : State) (v : Byte × Byte) : (s.setAF v).get .pc = s.get .pc := rfl
@[simp] theorem setAF_get_ir (s : State) (v : Byte × Byte) : (s.setAF v).get .ir = s.get .ir := rfl

@[simp] theorem set_a_ne (s : State) {r : Reg16} (h : r ≠ .af) (v : Word) : (s.set r v).a = s.a := by
  simp [a, get_set_ne s h]

@[simp] theorem set_f_ne (s : State) {r : Reg16} (h : r ≠ .af) (v : Word) : (s.set r v).f = s.f := by
  simp [f, get_set_ne s h]

/-- A register that does not hold `reg8[q]` written. -/
theorem set_reg8_ne (s : State) {r : Reg16} {q : Reg8} (h : r ≠ reg8Home q) (v : Word) :
    (s.set r v).reg8 q = s.reg8 q := by
  unfold reg8 getHalf; rw [get_set_ne s h]

@[simp] theorem setXh_a (s : State) (x : Idx) (h : Half) (v : Byte) : (s.setXh x h v).a = s.a := by
  cases x <;> cases h <;> rfl

@[simp] theorem setXh_f (s : State) (x : Idx) (h : Half) (v : Byte) : (s.setXh x h v).f = s.f := by
  cases x <;> cases h <;> rfl

/-! ## What a write of the PC or of IR, a tick, a store or a port access leaves -/

@[simp] theorem set_pc_reg8 (s : State) (w : Word) (r : Reg8) : (s.set .pc w).reg8 r = s.reg8 r := by cases r <;> rfl
@[simp] theorem set_ir_reg8 (s : State) (w : Word) (r : Reg8) : (s.set .ir w).reg8 r = s.reg8 r := by cases r <;> rfl
@[simp] theorem set_sp_reg8 (s : State) (w : Word) (r : Reg8) : (s.set .sp w).reg8 r = s.reg8 r := by cases r <;> rfl
@[simp] theorem tick_reg8 (s : State) (n : Nat) (r : Reg8) : (s.tick n).reg8 r = s.reg8 r := by cases r <;> rfl
@[simp] theorem writeByte_reg8 (s : State) (b : Word) (v : Byte) (r : Reg8) : (s.writeByte b v).reg8 r = s.reg8 r := by rw [writeByte_eq]; cases r <;> rfl
@[simp] theorem portRead_reg8 (s : State) (p u : Byte) (r : Reg8) : (s.portRead p u).reg8 r = s.reg8 r := by cases r <;> rfl
@[simp] theorem portWrite_reg8 (s : State) (p u v : Byte) (r : Reg8) : (s.portWrite p u v).reg8 r = s.reg8 r := by cases r <;> rfl
@[simp] theorem drawDone_reg8 (s : State) (r : Reg8) : (s.drawDone).reg8 r = s.reg8 r := by cases r <;> rfl
@[simp] theorem reporting_reg8 (s : State) (p : Option StepReport) (r : Reg8) : (s.reporting p).reg8 r = s.reg8 r := by cases r <;> rfl

@[simp] theorem set_pc_a (s : State) (w : Word) : (s.set .pc w).a = s.a := rfl
@[simp] theorem set_ir_a (s : State) (w : Word) : (s.set .ir w).a = s.a := rfl
@[simp] theorem set_sp_a (s : State) (w : Word) : (s.set .sp w).a = s.a := rfl
@[simp] theorem tick_a (s : State) (n : Nat) : (s.tick n).a = s.a := rfl
@[simp] theorem writeByte_a (s : State) (b : Word) (v : Byte) : (s.writeByte b v).a = s.a := by rw [writeByte_eq]; rfl
@[simp] theorem portRead_a (s : State) (p u : Byte) : (s.portRead p u).a = s.a := rfl
@[simp] theorem portWrite_a (s : State) (p u v : Byte) : (s.portWrite p u v).a = s.a := rfl
@[simp] theorem drawDone_a (s : State) : (s.drawDone).a = s.a := rfl
@[simp] theorem reporting_a (s : State) (p : Option StepReport) : (s.reporting p).a = s.a := rfl

@[simp] theorem set_pc_f (s : State) (w : Word) : (s.set .pc w).f = s.f := rfl
@[simp] theorem set_ir_f (s : State) (w : Word) : (s.set .ir w).f = s.f := rfl
@[simp] theorem set_sp_f (s : State) (w : Word) : (s.set .sp w).f = s.f := rfl
@[simp] theorem tick_f (s : State) (n : Nat) : (s.tick n).f = s.f := rfl
@[simp] theorem writeByte_f (s : State) (b : Word) (v : Byte) : (s.writeByte b v).f = s.f := by rw [writeByte_eq]; rfl
@[simp] theorem portRead_f (s : State) (p u : Byte) : (s.portRead p u).f = s.f := rfl
@[simp] theorem portWrite_f (s : State) (p u v : Byte) : (s.portWrite p u v).f = s.f := rfl
@[simp] theorem drawDone_f (s : State) : (s.drawDone).f = s.f := rfl
@[simp] theorem reporting_f (s : State) (p : Option StepReport) : (s.reporting p).f = s.f := rfl

@[simp] theorem set_pc_xh (s : State) (w : Word) (x : Idx) (h : Half) : (s.set .pc w).xh x h = s.xh x h := by cases x <;> cases h <;> rfl
@[simp] theorem set_ir_xh (s : State) (w : Word) (x : Idx) (h : Half) : (s.set .ir w).xh x h = s.xh x h := by cases x <;> cases h <;> rfl
@[simp] theorem set_sp_xh (s : State) (w : Word) (x : Idx) (h : Half) : (s.set .sp w).xh x h = s.xh x h := by cases x <;> cases h <;> rfl
@[simp] theorem tick_xh (s : State) (n : Nat) (x : Idx) (h : Half) : (s.tick n).xh x h = s.xh x h := by cases x <;> cases h <;> rfl
@[simp] theorem writeByte_xh (s : State) (b : Word) (v : Byte) (x : Idx) (h : Half) : (s.writeByte b v).xh x h = s.xh x h := by rw [writeByte_eq]; cases x <;> cases h <;> rfl
@[simp] theorem portRead_xh (s : State) (p u : Byte) (x : Idx) (h : Half) : (s.portRead p u).xh x h = s.xh x h := by cases x <;> cases h <;> rfl
@[simp] theorem portWrite_xh (s : State) (p u v : Byte) (x : Idx) (h : Half) : (s.portWrite p u v).xh x h = s.xh x h := by cases x <;> cases h <;> rfl
@[simp] theorem drawDone_xh (s : State) (x : Idx) (h : Half) : (s.drawDone).xh x h = s.xh x h := by cases x <;> cases h <;> rfl
@[simp] theorem reporting_xh (s : State) (p : Option StepReport) (x : Idx) (h : Half) : (s.reporting p).xh x h = s.xh x h := by cases x <;> cases h <;> rfl

@[simp] theorem set_pc_ea (s : State) (w : Word) (x : Idx) (d : Byte) : (s.set .pc w).ea x d = s.ea x d := by cases x <;> rfl
@[simp] theorem set_ir_ea (s : State) (w : Word) (x : Idx) (d : Byte) : (s.set .ir w).ea x d = s.ea x d := by cases x <;> rfl
@[simp] theorem set_sp_ea (s : State) (w : Word) (x : Idx) (d : Byte) : (s.set .sp w).ea x d = s.ea x d := by cases x <;> rfl
@[simp] theorem tick_ea (s : State) (n : Nat) (x : Idx) (d : Byte) : (s.tick n).ea x d = s.ea x d := by cases x <;> rfl
@[simp] theorem writeByte_ea (s : State) (b : Word) (v : Byte) (x : Idx) (d : Byte) : (s.writeByte b v).ea x d = s.ea x d := by rw [writeByte_eq]; cases x <;> rfl
@[simp] theorem portRead_ea (s : State) (p u : Byte) (x : Idx) (d : Byte) : (s.portRead p u).ea x d = s.ea x d := by cases x <;> rfl
@[simp] theorem portWrite_ea (s : State) (p u v : Byte) (x : Idx) (d : Byte) : (s.portWrite p u v).ea x d = s.ea x d := by cases x <;> rfl
@[simp] theorem drawDone_ea (s : State) (x : Idx) (d : Byte) : (s.drawDone).ea x d = s.ea x d := by cases x <;> rfl
@[simp] theorem reporting_ea (s : State) (p : Option StepReport) (x : Idx) (d : Byte) : (s.reporting p).ea x d = s.ea x d := by cases x <;> rfl

@[simp] theorem set_pc_cond (s : State) (w : Word) (cc : Cond) : (s.set .pc w).cond cc = s.cond cc := by cases cc <;> rfl
@[simp] theorem set_ir_cond (s : State) (w : Word) (cc : Cond) : (s.set .ir w).cond cc = s.cond cc := by cases cc <;> rfl
@[simp] theorem set_sp_cond (s : State) (w : Word) (cc : Cond) : (s.set .sp w).cond cc = s.cond cc := by cases cc <;> rfl
@[simp] theorem tick_cond (s : State) (n : Nat) (cc : Cond) : (s.tick n).cond cc = s.cond cc := by cases cc <;> rfl
@[simp] theorem writeByte_cond (s : State) (b : Word) (v : Byte) (cc : Cond) : (s.writeByte b v).cond cc = s.cond cc := by rw [writeByte_eq]; cases cc <;> rfl
@[simp] theorem portRead_cond (s : State) (p u : Byte) (cc : Cond) : (s.portRead p u).cond cc = s.cond cc := by cases cc <;> rfl
@[simp] theorem portWrite_cond (s : State) (p u v : Byte) (cc : Cond) : (s.portWrite p u v).cond cc = s.cond cc := by cases cc <;> rfl
@[simp] theorem drawDone_cond (s : State) (cc : Cond) : (s.drawDone).cond cc = s.cond cc := by cases cc <;> rfl
@[simp] theorem reporting_cond (s : State) (p : Option StepReport) (cc : Cond) : (s.reporting p).cond cc = s.cond cc := by cases cc <;> rfl

@[simp] theorem set_pc_pairReg (s : State) (w : Word) (p : Pair) :
    (s.set .pc w).get (pairReg p) = s.get (pairReg p) := by cases p <;> rfl
@[simp] theorem set_ir_pairReg (s : State) (w : Word) (p : Pair) :
    (s.set .ir w).get (pairReg p) = s.get (pairReg p) := by cases p <;> rfl
@[simp] theorem set_pc_pairAfReg (s : State) (w : Word) (q : PairAf) :
    (s.set .pc w).get (pairAfReg q) = s.get (pairAfReg q) := by cases q <;> rfl
@[simp] theorem set_ir_pairAfReg (s : State) (w : Word) (q : PairAf) :
    (s.set .ir w).get (pairAfReg q) = s.get (pairAfReg q) := by cases q <;> rfl
@[simp] theorem set_pc_idxReg (s : State) (w : Word) (x : Idx) :
    (s.set .pc w).get (idxReg x) = s.get (idxReg x) := by cases x <;> rfl
@[simp] theorem set_ir_idxReg (s : State) (w : Word) (x : Idx) :
    (s.set .ir w).get (idxReg x) = s.get (idxReg x) := by cases x <;> rfl
@[simp] theorem set_pc_idxPairReg (s : State) (w : Word) (x : Idx) (p : Pair) :
    (s.set .pc w).get (idxPairReg x p) = s.get (idxPairReg x p) := by cases x <;> cases p <;> rfl
@[simp] theorem set_ir_idxPairReg (s : State) (w : Word) (x : Idx) (p : Pair) :
    (s.set .ir w).get (idxPairReg x p) = s.get (idxPairReg x p) := by cases x <;> cases p <;> rfl

end State

end Sys2Proof.Machine
end

