-- ==== Sys2Proof/Laws/Memory.lean ====
section
/-! SUPPORT. Memory: reading after a write, on any list of cells, and the canonical form, which every memory
operation keeps. -/

namespace Sys2Proof.Machine

theorem Memory.read_cons (k : Nat) (v : Byte) (m : List Host.Cell) (b : Nat) :
    Memory.read ((k, v) :: m) b = if b = k then v else Memory.read m b := by
  rw [Memory.read]; split <;> split <;> first | rfl | omega

theorem Memory.read_erase (m : List Host.Cell) (a b : Nat) :
    Memory.read (Memory.erase m a) b = if b = a then Memory.unlisted else Memory.read m b := by
  induction m with
  | nil => simp [Memory.read, Memory.erase]
  | cons c m ih =>
    obtain ⟨k, v⟩ := c
    rw [Memory.erase, Memory.read_cons]
    split
    · rw [ih]; split_ifs <;> first | rfl | omega
    · rw [Memory.read_cons, ih]; split_ifs <;> first | rfl | omega

theorem Memory.read_insert (m : List Host.Cell) (a b : Nat) (v : Byte)
    (hn : ∀ c ∈ m, c.1 ≠ a) : Memory.read (Memory.insert m a v) b = if b = a then v else Memory.read m b := by
  induction m with
  | nil => rw [Memory.insert, Memory.read_cons]
  | cons c m ih =>
    obtain ⟨k, x⟩ := c
    have hk : k ≠ a := hn (k, x) (by simp)
    have ih := ih fun c hc => hn c (by simp [hc])
    rw [Memory.insert]
    split
    · rw [Memory.read_cons, Memory.read_cons]
    · rw [Memory.read_cons, Memory.read_cons, ih]; split_ifs <;> first | rfl | omega

theorem Memory.not_mem_erase (m : List Host.Cell) (a : Nat) : ∀ c ∈ Memory.erase m a, c.1 ≠ a := by
  induction m with
  | nil => simp [Memory.erase]
  | cons c m ih =>
    obtain ⟨k, v⟩ := c
    by_cases hk : k = a
    · simpa [Memory.erase, hk] using ih
    · simpa [Memory.erase, hk] using ih

/-- Read after write, the same place or another. -/
theorem Memory.read_write (m : List Host.Cell) (a b : Nat) (v : Byte) :
    Memory.read (Memory.write m a v) b = if b = a then v else Memory.read m b := by
  unfold Memory.write
  split
  · rename_i h; rw [Memory.read_erase, h]
  · rw [Memory.read_insert _ _ _ _ (Memory.not_mem_erase m a), Memory.read_erase]
    split <;> simp_all

theorem Memory.wfFrom_mono {m : List Host.Cell} {p q : Nat} (h : Memory.wfFrom q m = true) (hpq : p ≤ q) :
    Memory.wfFrom p m = true := by
  cases m with
  | nil => rfl
  | cons c m =>
    obtain ⟨k, v⟩ := c
    simp only [Memory.wfFrom, Bool.and_eq_true, decide_eq_true_eq] at h ⊢
    exact ⟨⟨⟨by omega, h.1.1.2⟩, h.1.2⟩, h.2⟩

theorem Memory.wfFrom_erase {m : List Host.Cell} {p : Nat} (h : Memory.wfFrom p m = true) (a : Nat) :
    Memory.wfFrom p (Memory.erase m a) = true := by
  induction m generalizing p with
  | nil => rfl
  | cons c m ih =>
    obtain ⟨k, v⟩ := c
    simp only [Memory.wfFrom, Bool.and_eq_true, decide_eq_true_eq] at h
    by_cases hk : k = a
    · simp only [Memory.erase, hk, ↓reduceIte]
      exact ih (Memory.wfFrom_mono h.2 (by omega))
    · simp only [Memory.erase, hk, ↓reduceIte, Memory.wfFrom, Bool.and_eq_true, decide_eq_true_eq]
      exact ⟨h.1, ih h.2⟩

theorem Memory.wfFrom_insert {m : List Host.Cell} {p a : Nat} {v : Byte} (h : Memory.wfFrom p m = true)
    (hn : ∀ c ∈ m, c.1 ≠ a) (hp : p ≤ a) (ha : a < 65536) (hv : v ≠ Memory.unlisted) :
    Memory.wfFrom p (Memory.insert m a v) = true := by
  induction m generalizing p with
  | nil => simp [Memory.insert, Memory.wfFrom, hp, ha, hv]
  | cons c m ih =>
    obtain ⟨k, x⟩ := c
    have hk : k ≠ a := hn (k, x) (by simp)
    simp only [Memory.wfFrom, Bool.and_eq_true, decide_eq_true_eq] at h
    by_cases hlt : a < k
    · simp only [Memory.insert, hlt, ↓reduceIte, Memory.wfFrom, Bool.and_eq_true, decide_eq_true_eq, bne_iff_ne]
      exact ⟨⟨⟨hp, ha⟩, hv⟩, ⟨⟨by omega, h.1.1.2⟩, by simpa using h.1.2⟩, h.2⟩
    · simp only [Memory.insert, hlt, ↓reduceIte, Memory.wfFrom, Bool.and_eq_true, decide_eq_true_eq]
      exact ⟨h.1, ih h.2 (fun c hc => hn c (by simp [hc])) (by omega)⟩

/-- A write keeps the canonical form. -/
theorem Memory.wf_write {m : List Host.Cell} (h : Memory.wf m = true) {a : Nat} (ha : a < 65536) (v : Byte) :
    Memory.wf (Memory.write m a v) = true := by
  unfold Memory.wf Memory.write at *
  split
  · exact Memory.wfFrom_erase h a
  · rename_i hv
    exact Memory.wfFrom_insert (Memory.wfFrom_erase h a) (Memory.not_mem_erase m a) (Nat.zero_le a) ha hv

/-- From an address on, the first entry is above it. -/
theorem Memory.read_below {m : List Host.Cell} {p b : Nat} (h : Memory.wfFrom p m = true) (hb : b < p) :
    Memory.read m b = Memory.unlisted := by
  induction m generalizing p with
  | nil => rfl
  | cons c m ih =>
    obtain ⟨k, v⟩ := c
    simp only [Memory.wfFrom, Bool.and_eq_true, decide_eq_true_eq] at h
    rw [Memory.read, if_neg (by omega)]
    exact ih h.2 (by omega)

/-- Two canonical memories that read alike at every address are one list. -/
theorem Memory.ext_of_read {m n : List Host.Cell} {p q : Nat} (hm : Memory.wfFrom p m = true)
    (hn : Memory.wfFrom q n = true) (h : ∀ a, Memory.read m a = Memory.read n a) : m = n := by
  induction m generalizing n p q with
  | nil =>
    cases n with
    | nil => rfl
    | cons c n =>
      obtain ⟨k, v⟩ := c
      simp only [Memory.wfFrom, Bool.and_eq_true, bne_iff_ne] at hn
      exact absurd (by simpa [Memory.read] using (h k).symm) hn.1.2
  | cons c m ih =>
    obtain ⟨k, v⟩ := c
    simp only [Memory.wfFrom, Bool.and_eq_true, decide_eq_true_eq, bne_iff_ne] at hm
    cases n with
    | nil => exact absurd (by simpa [Memory.read] using h k) hm.1.2
    | cons d n =>
      obtain ⟨l, w⟩ := d
      simp only [Memory.wfFrom, Bool.and_eq_true, decide_eq_true_eq, bne_iff_ne] at hn
      have hkl : k = l := by
        by_contra hne
        rcases Nat.lt_or_gt_of_ne hne with hlt | hlt
        · have e := h k
          rw [Memory.read, if_pos rfl, Memory.read, if_neg (by omega), Memory.read_below hn.2 (by omega)] at e
          exact hm.1.2 e
        · have e := h l
          rw [Memory.read, if_neg (by omega), Memory.read_below hm.2 (by omega), Memory.read, if_pos rfl] at e
          exact hn.1.2 e.symm
      subst hkl
      have hvw : v = w := by simpa [Memory.read] using h k
      subst hvw
      congr 1
      refine ih hm.2 hn.2 fun a => ?_
      by_cases ha : a = k
      · subst ha; rw [Memory.read_below hm.2 (by omega), Memory.read_below hn.2 (by omega)]
      · have e := h a
        rwa [Memory.read, if_neg (Ne.symm ha), Memory.read, if_neg (Ne.symm ha)] at e

namespace State

/-- A byte read after a byte store (R202). -/
theorem readByte_writeByte (s : State) (a b : Word) (v : Byte) :
    (s.writeByte a v).readByte b =
      if b = a ∧ Params.writable s.params a.toNat = true then v else s.readByte b := by
  unfold writeByte readByte
  split
  · rename_i h
    simp only [Memory.read_write, h, and_true, BitVec.toNat_inj]
  · rename_i h; simp [h]

/-- A byte store keeps the canonical form. -/
theorem wf_writeByte (s : State) (a : Word) (v : Byte) (h : Memory.wf s.mem = true) :
    Memory.wf (s.writeByte a v).mem = true := by
  unfold writeByte
  split
  · exact Memory.wf_write h a.isLt v
  · exact h

/-- A word store is two byte stores. -/
theorem readByte_writeWord (s : State) (a b v : Word) :
    (s.writeWord a v).readByte b =
      if b = a + 1 ∧ Params.writable s.params (a + 1).toNat = true then hi v
      else if b = a ∧ Params.writable s.params a.toNat = true then lo v else s.readByte b := by
  unfold writeWord
  rw [readByte_writeByte, readByte_writeByte, writeByte_params]

theorem wf_writeWord (s : State) (a v : Word) (h : Memory.wf s.mem = true) :
    Memory.wf (s.writeWord a v).mem = true :=
  wf_writeByte _ _ _ (wf_writeByte _ _ _ h)

theorem wf_push16 (s : State) (v : Word) (h : Memory.wf s.mem = true) : Memory.wf (s.push16 v).mem = true :=
  wf_writeWord _ _ _ h

theorem wf_loadBytes (s : State) (a : Word) (bs : List Byte) (h : Memory.wf s.mem = true) :
    Memory.wf (s.loadBytes a bs).mem = true := by
  induction bs generalizing s a with
  | nil => exact h
  | cons b bs ih => exact ih _ _ (Memory.wf_write h a.isLt b)

end State

/-- The memory of the machine right after reset is canonical. -/
theorem reset_memory_wf : Memory.wf State.reset.mem = true := rfl

end Sys2Proof.Machine
end

