-- ==== Sys2Proof/Laws/Machine.lean ====
section
/-! SUPPORT. What the shared operations around an instruction do: the refresh, the sequencer, the end of a step. -/

namespace Sys2Proof.Machine

/-! ## The refresh (40_step_and_flags.md R404) -/

namespace State

theorem refresh_i (s : State) (k : Nat) : (s.refresh k).i = s.i := by
  simp [State.refresh, State.i, setLo]

theorem refresh_r (s : State) (k : Nat) :
    (s.refresh k).r = (s.r &&& 0x80#8) ||| ((s.r + BitVec.ofNat 8 k) &&& 0x7F#8) := by
  simp [State.refresh, State.r, setLo]

/-- A refresh touches IR only. -/
theorem refresh_get (s : State) (k : Nat) {g : Reg16} (h : g ≠ .ir) : (s.refresh k).get g = s.get g :=
  get_set_ne s (Ne.symm h) _

theorem refreshed_refresh (s : State) (k : Nat) : Refreshed s (s.refresh k) k := by
  refine ⟨refresh_i s k, ?_, ?_⟩
  · rw [refresh_r]; simp
  · rw [refresh_r]
    generalize s.r = r
    have h : ∀ r v : Byte, ((r &&& 0x80#8) ||| (v &&& 0x7F#8)).toNat % 128 = v.toNat % 128 := by
      intro r v
      have e : ((r &&& 0x80#8) ||| (v &&& 0x7F#8)).setWidth 7 = v.setWidth 7 := by
        apply BitVec.eq_of_getLsbD_eq
        intro n hn
        simp only [BitVec.getLsbD_setWidth, BitVec.getLsbD_or, BitVec.getLsbD_and, hn, decide_true, Bool.true_and]
        interval_cases n <;> simp
      have := congrArg BitVec.toNat e
      rwa [BitVec.toNat_setWidth, BitVec.toNat_setWidth] at this
    rw [h, BitVec.toNat_add, BitVec.toNat_ofNat]
    omega

/-- A refresh is a write of IR. -/
theorem refresh_eq_set (s : State) (k : Nat) : ∃ w, s.refresh k = s.set .ir w := ⟨_, rfl⟩

theorem refreshIf_eq_set (s : State) (o : RefreshOrder) (k : Nat) : ∃ w, s.refreshIf o k = s.set .ir w := by
  unfold refreshIf
  split
  · exact refresh_eq_set s k
  · exact ⟨_, (set_get_self s .ir).symm⟩

/-- The PC advance is a write of the PC. -/
theorem advance_eq_set (s : State) (d : Desc) (c : Completion) :
    s.advance d c = s.set .pc ((s.advance d c).get .pc) := by
  cases c <;> simp [advance]

end State

/-! ## The sequencer (R401, R402) -/

/-- Everything the sequencer can do: it always answers a next state, by a completion, which it reports, or by a fatal
fault, after which there is no report. -/
theorem sequencer_cases (d : Desc) (eff : State → Effect) (s : State) :
    (∃ c v, eff (s.refreshIf .beforeExecute d.rDelta) = .done c v ∧
      sequencer d eff s =
        .next ((((v.advance d c).tick (d.charge c)).refreshIf .afterExecute d.rDelta).reporting (some ⟨d, c⟩))) ∨
    ∃ k v, eff (s.refreshIf .beforeExecute d.rDelta) = .fatal k v ∧
      sequencer d eff s = .next (State.reporting { v with fatal := some k } none) := by
  unfold sequencer
  split
  · rename_i c v h; exact .inl ⟨c, v, h, rfl⟩
  · rename_i k v h; exact .inr ⟨k, v, h, rfl⟩

/-- An instruction runs as a statement says when its effect, whatever R holds, completes with that PC and charge,
leaves the clock and IR alone, and gives what the statement says of a state that may yet differ in PC, clock, IR and
report. -/
theorem runsTo_of_sequencer {i : Instr} {s c : State} {d : Desc} {eff : State → Effect} {pc : Word} {cost : Nat}
    {but : List Reg16} {Q : State → Prop} (he : exec i s = sequencer d eff s)
    (h : ∀ w, ∃ cs v, eff (s.set .ir w) = .done cs v ∧ (v.advance d cs).get .pc = pc ∧ d.charge cs = cost ∧
      v.clock = s.clock ∧ v.get .ir = w ∧ v.params = s.params ∧ SameControl c v ∧
      SameRegs s v (.pc :: .ir :: but) ∧ ∀ p n w2 o, Q ((((v.set .pc p).tick n).set .ir w2).reporting o)) :
    RunsTo i s c pc cost d.rDelta but Q := by
  obtain ⟨w, hw⟩ := State.refreshIf_eq_set s .beforeExecute d.rDelta
  obtain ⟨cs, v, hv, hpc, hcost, hclock, hir, hparams, hctl, hregs, hQ⟩ := h w
  have hseq : exec i s =
      .next ((((v.advance d cs).tick (d.charge cs)).refreshIf .afterExecute d.rDelta).reporting (some ⟨d, cs⟩)) := by
    rw [he]; unfold sequencer; rw [hw, hv]
  have hadv : v.advance d cs = v.set .pc pc := by rw [← hpc]; exact State.advance_eq_set v d cs
  rw [hadv, hcost] at hseq
  have key : ∀ (t : State) (o : Option StepReport), (∃ w2, t = ((v.set .pc pc).tick cost).set .ir w2) →
      Refreshed s t d.rDelta → exec i s = .next (t.reporting o) → RunsTo i s c pc cost d.rDelta but Q := by
    rintro t o ⟨w2, rfl⟩ hr ht
    refine ⟨_, ht, ?_, ?_, hr, ?_, ?_, hQ _ _ _ _⟩
    · simp
    · simp [hclock]
    · simpa [SameControl] using hctl
    · intro g hg
      have h1 : g ≠ .pc ∧ g ≠ .ir := by simp at hg; exact ⟨hg.1, hg.2.1⟩
      simp only [State.reporting_get, State.get_set, State.tick_get, Ne.symm h1.1, Ne.symm h1.2, if_false]
      exact hregs g hg
  cases ho : s.params.refreshOrder with
  | afterExecute =>
    have hwid : s.set .ir w = s := by rw [← hw]; simp [State.refreshIf, ho]
    have hw0 : w = s.get .ir := by simpa using congrArg (fun u => State.get u .ir) hwid
    have hafter : ((v.set .pc pc).tick cost).refreshIf .afterExecute d.rDelta =
        ((v.set .pc pc).tick cost).refresh d.rDelta := by
      simp [State.refreshIf, hparams, ho]
    rw [hafter] at hseq
    refine key _ _ (State.refresh_eq_set _ _) ?_ hseq
    have := State.refreshed_refresh ((v.set .pc pc).tick cost) d.rDelta
    have e : ((v.set .pc pc).tick cost).get .ir = s.get .ir := by simp [hir, hw0]
    simpa only [Refreshed, State.i, State.r, e] using this
  | beforeExecute =>
    have hafter : ((v.set .pc pc).tick cost).refreshIf .afterExecute d.rDelta = (v.set .pc pc).tick cost := by
      simp [State.refreshIf, hparams, ho]
    rw [hafter] at hseq
    refine key _ _ ⟨_, (State.set_get_self _ .ir).symm⟩ ?_ hseq
    have hb : s.refresh d.rDelta = s.set .ir w := by rw [← hw]; simp [State.refreshIf, ho]
    have := State.refreshed_refresh s d.rDelta
    have e : ((v.set .pc pc).tick cost).get .ir = (s.refresh d.rDelta).get .ir := by
      rw [hb]; simp [hir]
    simpa only [Refreshed, State.i, State.r, e] using this

/-- The same for an instruction that completes `Next`. -/
theorem runsTo_of_straight {i : Instr} {s c : State} {len cost k : Nat} {f : State → State} {but : List Reg16}
    {Q : State → Prop} (he : exec i s = straight len cost k f s)
    (h : ∀ w, (f (s.set .ir w)).get .pc = s.get .pc ∧ (f (s.set .ir w)).clock = s.clock ∧
      (f (s.set .ir w)).get .ir = w ∧ (f (s.set .ir w)).params = s.params ∧ SameControl c (f (s.set .ir w)) ∧
      SameRegs s (f (s.set .ir w)) (.pc :: .ir :: but) ∧
      ∀ p n w2 o, Q (((((f (s.set .ir w)).set .pc p).tick n).set .ir w2).reporting o)) :
    RunsTo i s c (s.get .pc + BitVec.ofNat 16 len) cost k but Q := by
  refine runsTo_of_sequencer (d := ⟨len, cost, none, k⟩) he fun w => ?_
  obtain ⟨h1, h2, h3, h4, h5, h6, h7⟩ := h w
  exact ⟨.next, _, rfl, by simp [State.advance, h1], rfl, h2, h3, h4, h5, h6, h7⟩

/-- The same for an instruction that writes the PC and completes `Repeat`. -/
theorem runsTo_of_jumping {i : Instr} {s c : State} {pc : Word} {len cost k : Nat} {f : State → State}
    {but : List Reg16} {Q : State → Prop} (he : exec i s = jumping len cost k f s)
    (h : ∀ w, (f (s.set .ir w)).get .pc = pc ∧ (f (s.set .ir w)).clock = s.clock ∧
      (f (s.set .ir w)).get .ir = w ∧ (f (s.set .ir w)).params = s.params ∧ SameControl c (f (s.set .ir w)) ∧
      SameRegs s (f (s.set .ir w)) (.pc :: .ir :: but) ∧
      ∀ p n w2 o, Q (((((f (s.set .ir w)).set .pc p).tick n).set .ir w2).reporting o)) :
    RunsTo i s c pc cost k but Q := by
  refine runsTo_of_sequencer (d := ⟨len, cost, none, k⟩) he fun w => ?_
  obtain ⟨h1, h2, h3, h4, h5, h6, h7⟩ := h w
  exact ⟨.again, _, rfl, h1, rfl, h2, h3, h4, h5, h6, h7⟩

/-! ## Flags -/

/-- A packed F holds the eight flags it was packed from. -/
theorem flagsAre_packFlags : ∀ S Z Y H X PV N C, FlagsAre (packFlags S Z Y H X PV N C) S Z Y H X PV N C := by
  unfold FlagsAre; decide

/-! ## The interrupt controller (60_exceptions.md) and the end of a step -/

/-- Everything the check can do: only end the EI delay, drop a lapsed request, raise the fatal fault, accept. -/
theorem interruptCheck_cases (s : State) :
    (s.interruptCheck = { s with intInhibit := false } ∧
      (s.intPending = false ∨ s.clock < s.intDeadline ∧ (s.iff1 = false ∨ s.intInhibit = true))) ∨
    (s.interruptCheck = { s with intInhibit := false, intPending := false } ∧ s.intPending = true ∧
      s.intDeadline ≤ s.clock) ∨
    (s.intPending = true ∧ s.clock < s.intDeadline ∧ s.iff1 = true ∧ s.intInhibit = false ∧
      (s.im = 3 ∧ s.interruptCheck = { s with intInhibit := false, fatal := some .badInterruptMode } ∨
        s.im ≠ 3 ∧ s.interruptCheck = State.accept { s with intInhibit := false })) := by
  unfold State.interruptCheck
  split_ifs <;> simp_all

/-- What an acceptance leaves in everything but the registers and memory. -/
theorem accept_control (s : State) :
    s.accept.iff1 = false ∧ s.accept.iff2 = false ∧ s.accept.im = s.im ∧ s.accept.intPending = false ∧
    s.accept.intDeadline = s.intDeadline ∧ s.accept.intInhibit = s.intInhibit ∧ s.accept.halted = false ∧
    s.accept.fatal = s.fatal ∧ s.accept.params = s.params ∧ s.accept.irqQueue = s.irqQueue ∧
    s.accept.draws = s.draws ∧ s.accept.portIn = s.portIn ∧ s.accept.portLog = s.portLog ∧
    s.accept.report = s.report ∧
    s.accept.clock = s.clock + acceptCost s.im := by
  simp [State.accept, State.push16, State.writeWord, State.refresh, State.setLo]

/-- The memory an acceptance leaves is the one the push leaves. -/
theorem accept_mem (s : State) : s.accept.mem = (s.push16 (s.get .pc)).mem := by
  simp [State.accept, State.push16, State.writeWord, State.refresh, State.setLo, State.writeByte_eq]
  rfl

/-- An acceptance writes no register but PC, SP and IR. -/
theorem accept_get (s : State) {g : Reg16} (h1 : g ≠ .pc) (h2 : g ≠ .sp) (h3 : g ≠ .ir) :
    s.accept.get g = s.get g := by
  unfold State.accept
  rw [State.refresh_get _ _ h3]
  simp only [State.tick_get, State.get_set, Ne.symm h1, if_false]
  simp [State.push16, State.writeWord, Ne.symm h2]
  rfl

/-- A recorded request changes the request window only. -/
theorem recordRequest_cases (s : State) (b : Bool) :
    s.recordRequest b = s ∨
      s.recordRequest b = { s with intPending := true, intDeadline := s.clock + s.params.intDuration } := by
  cases b
  · exact .inl rfl
  · exact .inr rfl

/-- The end of a step that a fatal fault stopped, and of one that none did. -/
theorem endStep_cases (s : State) :
    (s.fatal ≠ none ∧ s.endStep = { s with irqQueue := s.irqQueue.tail }) ∨
    (s.fatal = none ∧ s.endStep =
      (State.recordRequest { s with irqQueue := s.irqQueue.tail } (s.irqQueue.headD false)).interruptCheck) := by
  cases h : s.fatal
  · right; simp [State.endStep, h]
  · left; simp [State.endStep, h]

/-- The end of a step keeps the report of its instruction. -/
theorem endStep_report (s : State) : s.endStep.report = s.report := by
  obtain ⟨-, h⟩ | ⟨-, h⟩ := endStep_cases s
  · rw [h]
  · rw [h]
    obtain hr | hr := recordRequest_cases { s with irqQueue := s.irqQueue.tail } (s.irqQueue.headD false) <;> rw [hr]
    all_goals
      obtain ⟨hc, -⟩ | ⟨hc, -⟩ | ⟨-, -, -, -, ⟨-, hc⟩ | ⟨-, hc⟩⟩ := interruptCheck_cases _ <;> rw [hc]
      exact (accept_control _).2.2.2.2.2.2.2.2.2.2.2.2.2.1

/-- The return from an interrupt pops the PC and copies IFF2 into IFF1. -/
theorem returnFromInterrupt_eq (s : State) :
    s.returnFromInterrupt = { s.returnTo with iff1 := s.iff2 } := rfl

end Sys2Proof.Machine
end

