-- ==== Sys2Proof/Laws/PerInstr.lean ====
section
/-! SUPPORT. Statements about every instruction as syntax, one lemma per constructor. `EncodeLength`: an instruction's
encoding has as many bytes as the instruction is long (40_step_and_flags.md R400). -/

namespace Sys2Proof.Laws.EncodeLength

/-- The encoding has the instruction's length. -/
def Statement (i : Instr) : Prop := (encode i).length = i.length

theorem nop : Statement .nop := rfl
theorem ldPairImm (p : Pair) (nn : Word) : Statement (.ldPairImm p nn) := rfl
theorem ldMemBcA : Statement .ldMemBcA := rfl
theorem ldMemDeA : Statement .ldMemDeA := rfl
theorem ldMemNnHl (nn : Word) : Statement (.ldMemNnHl nn) := rfl
theorem ldMemNnA (nn : Word) : Statement (.ldMemNnA nn) := rfl
theorem incPair (p : Pair) : Statement (.incPair p) := rfl
theorem incReg (r : Reg8) : Statement (.incReg r) := rfl
theorem incMemHl : Statement .incMemHl := rfl
theorem decReg (r : Reg8) : Statement (.decReg r) := rfl
theorem decMemHl : Statement .decMemHl := rfl
theorem ldRegImm (r : Reg8) (n : Byte) : Statement (.ldRegImm r n) := rfl
theorem ldMemHlImm (n : Byte) : Statement (.ldMemHlImm n) := rfl
theorem rlca : Statement .rlca := rfl
theorem rrca : Statement .rrca := rfl
theorem rla : Statement .rla := rfl
theorem rra : Statement .rra := rfl
theorem daa : Statement .daa := rfl
theorem cpl : Statement .cpl := rfl
theorem scf : Statement .scf := rfl
theorem ccf : Statement .ccf := rfl
theorem exAfAf : Statement .exAfAf := rfl
theorem djnz (e : Byte) : Statement (.djnz e) := rfl
theorem jr (e : Byte) : Statement (.jr e) := rfl
theorem jrCond (cc : Cond) (e : Byte) : Statement (.jrCond cc e) := rfl
theorem addHlPair (p : Pair) : Statement (.addHlPair p) := rfl
theorem ldAMemBc : Statement .ldAMemBc := rfl
theorem ldAMemDe : Statement .ldAMemDe := rfl
theorem ldHlMemNn (nn : Word) : Statement (.ldHlMemNn nn) := rfl
theorem ldAMemNn (nn : Word) : Statement (.ldAMemNn nn) := rfl
theorem decPair (p : Pair) : Statement (.decPair p) := rfl
theorem ldRegReg (r : Reg8) (r2 : Reg8) : Statement (.ldRegReg r r2) := rfl
theorem ldRegMemHl (r : Reg8) : Statement (.ldRegMemHl r) := rfl
theorem ldMemHlReg (r : Reg8) : Statement (.ldMemHlReg r) := rfl
theorem halt : Statement .halt := rfl
theorem addAReg (r : Reg8) : Statement (.addAReg r) := rfl
theorem addAMemHl : Statement .addAMemHl := rfl
theorem addAImm (n : Byte) : Statement (.addAImm n) := rfl
theorem addAMemIdx (x : Idx) (d : Byte) : Statement (.addAMemIdx x d) := rfl
theorem addAHalf (x : Idx) (h : Half) : Statement (.addAHalf x h) := rfl
theorem adcAReg (r : Reg8) : Statement (.adcAReg r) := rfl
theorem adcAMemHl : Statement .adcAMemHl := rfl
theorem adcAImm (n : Byte) : Statement (.adcAImm n) := rfl
theorem adcAMemIdx (x : Idx) (d : Byte) : Statement (.adcAMemIdx x d) := rfl
theorem adcAHalf (x : Idx) (h : Half) : Statement (.adcAHalf x h) := rfl
theorem subAReg (r : Reg8) : Statement (.subAReg r) := rfl
theorem subAMemHl : Statement .subAMemHl := rfl
theorem subAImm (n : Byte) : Statement (.subAImm n) := rfl
theorem subAMemIdx (x : Idx) (d : Byte) : Statement (.subAMemIdx x d) := rfl
theorem subAHalf (x : Idx) (h : Half) : Statement (.subAHalf x h) := rfl
theorem sbcAReg (r : Reg8) : Statement (.sbcAReg r) := rfl
theorem sbcAMemHl : Statement .sbcAMemHl := rfl
theorem sbcAImm (n : Byte) : Statement (.sbcAImm n) := rfl
theorem sbcAMemIdx (x : Idx) (d : Byte) : Statement (.sbcAMemIdx x d) := rfl
theorem sbcAHalf (x : Idx) (h : Half) : Statement (.sbcAHalf x h) := rfl
theorem andAReg (r : Reg8) : Statement (.andAReg r) := rfl
theorem andAMemHl : Statement .andAMemHl := rfl
theorem andAImm (n : Byte) : Statement (.andAImm n) := rfl
theorem andAMemIdx (x : Idx) (d : Byte) : Statement (.andAMemIdx x d) := rfl
theorem andAHalf (x : Idx) (h : Half) : Statement (.andAHalf x h) := rfl
theorem xorAReg (r : Reg8) : Statement (.xorAReg r) := rfl
theorem xorAMemHl : Statement .xorAMemHl := rfl
theorem xorAImm (n : Byte) : Statement (.xorAImm n) := rfl
theorem xorAMemIdx (x : Idx) (d : Byte) : Statement (.xorAMemIdx x d) := rfl
theorem xorAHalf (x : Idx) (h : Half) : Statement (.xorAHalf x h) := rfl
theorem orAReg (r : Reg8) : Statement (.orAReg r) := rfl
theorem orAMemHl : Statement .orAMemHl := rfl
theorem orAImm (n : Byte) : Statement (.orAImm n) := rfl
theorem orAMemIdx (x : Idx) (d : Byte) : Statement (.orAMemIdx x d) := rfl
theorem orAHalf (x : Idx) (h : Half) : Statement (.orAHalf x h) := rfl
theorem cpAReg (r : Reg8) : Statement (.cpAReg r) := rfl
theorem cpAMemHl : Statement .cpAMemHl := rfl
theorem cpAImm (n : Byte) : Statement (.cpAImm n) := rfl
theorem cpAMemIdx (x : Idx) (d : Byte) : Statement (.cpAMemIdx x d) := rfl
theorem cpAHalf (x : Idx) (h : Half) : Statement (.cpAHalf x h) := rfl
theorem retCond (cc : Cond) : Statement (.retCond cc) := rfl
theorem popPair (q : PairAf) : Statement (.popPair q) := rfl
theorem jpCond (cc : Cond) (nn : Word) : Statement (.jpCond cc nn) := rfl
theorem jp (nn : Word) : Statement (.jp nn) := rfl
theorem outImmA (n : Byte) : Statement (.outImmA n) := rfl
theorem inAImm (n : Byte) : Statement (.inAImm n) := rfl
theorem exMemSpHl : Statement .exMemSpHl := rfl
theorem exDeHl : Statement .exDeHl := rfl
theorem di : Statement .di := rfl
theorem ei : Statement .ei := rfl
theorem callCond (cc : Cond) (nn : Word) : Statement (.callCond cc nn) := rfl
theorem pushPair (q : PairAf) : Statement (.pushPair q) := rfl
theorem call (nn : Word) : Statement (.call nn) := rfl
theorem rst (t : BitVec 3) : Statement (.rst t) := rfl
theorem ret : Statement .ret := rfl
theorem exx : Statement .exx := rfl
theorem jpHl : Statement .jpHl := rfl
theorem ldSpHl : Statement .ldSpHl := rfl
theorem rlcReg (r : Reg8) : Statement (.rlcReg r) := rfl
theorem rlcMemHl : Statement .rlcMemHl := rfl
theorem rlcMemIdx (x : Idx) (d : Byte) : Statement (.rlcMemIdx x d) := rfl
theorem rlcMemIdxCopy (x : Idx) (d : Byte) (r : Reg8) : Statement (.rlcMemIdxCopy x d r) := rfl
theorem rrcReg (r : Reg8) : Statement (.rrcReg r) := rfl
theorem rrcMemHl : Statement .rrcMemHl := rfl
theorem rrcMemIdx (x : Idx) (d : Byte) : Statement (.rrcMemIdx x d) := rfl
theorem rrcMemIdxCopy (x : Idx) (d : Byte) (r : Reg8) : Statement (.rrcMemIdxCopy x d r) := rfl
theorem rlReg (r : Reg8) : Statement (.rlReg r) := rfl
theorem rlMemHl : Statement .rlMemHl := rfl
theorem rlMemIdx (x : Idx) (d : Byte) : Statement (.rlMemIdx x d) := rfl
theorem rlMemIdxCopy (x : Idx) (d : Byte) (r : Reg8) : Statement (.rlMemIdxCopy x d r) := rfl
theorem rrReg (r : Reg8) : Statement (.rrReg r) := rfl
theorem rrMemHl : Statement .rrMemHl := rfl
theorem rrMemIdx (x : Idx) (d : Byte) : Statement (.rrMemIdx x d) := rfl
theorem rrMemIdxCopy (x : Idx) (d : Byte) (r : Reg8) : Statement (.rrMemIdxCopy x d r) := rfl
theorem slaReg (r : Reg8) : Statement (.slaReg r) := rfl
theorem slaMemHl : Statement .slaMemHl := rfl
theorem slaMemIdx (x : Idx) (d : Byte) : Statement (.slaMemIdx x d) := rfl
theorem slaMemIdxCopy (x : Idx) (d : Byte) (r : Reg8) : Statement (.slaMemIdxCopy x d r) := rfl
theorem sraReg (r : Reg8) : Statement (.sraReg r) := rfl
theorem sraMemHl : Statement .sraMemHl := rfl
theorem sraMemIdx (x : Idx) (d : Byte) : Statement (.sraMemIdx x d) := rfl
theorem sraMemIdxCopy (x : Idx) (d : Byte) (r : Reg8) : Statement (.sraMemIdxCopy x d r) := rfl
theorem sllReg (r : Reg8) : Statement (.sllReg r) := rfl
theorem sllMemHl : Statement .sllMemHl := rfl
theorem sllMemIdx (x : Idx) (d : Byte) : Statement (.sllMemIdx x d) := rfl
theorem sllMemIdxCopy (x : Idx) (d : Byte) (r : Reg8) : Statement (.sllMemIdxCopy x d r) := rfl
theorem srlReg (r : Reg8) : Statement (.srlReg r) := rfl
theorem srlMemHl : Statement .srlMemHl := rfl
theorem srlMemIdx (x : Idx) (d : Byte) : Statement (.srlMemIdx x d) := rfl
theorem srlMemIdxCopy (x : Idx) (d : Byte) (r : Reg8) : Statement (.srlMemIdxCopy x d r) := rfl
theorem bitReg (b : BitVec 3) (r : Reg8) : Statement (.bitReg b r) := rfl
theorem bitMemHl (b : BitVec 3) : Statement (.bitMemHl b) := rfl
theorem bitMemIdx (x : Idx) (d : Byte) (b : BitVec 3) (z : BitVec 3) : Statement (.bitMemIdx x d b z) := rfl
theorem resReg (b : BitVec 3) (r : Reg8) : Statement (.resReg b r) := rfl
theorem resMemHl (b : BitVec 3) : Statement (.resMemHl b) := rfl
theorem resMemIdx (x : Idx) (d : Byte) (b : BitVec 3) : Statement (.resMemIdx x d b) := rfl
theorem resMemIdxCopy (x : Idx) (d : Byte) (b : BitVec 3) (r : Reg8) : Statement (.resMemIdxCopy x d b r) := rfl
theorem setReg (b : BitVec 3) (r : Reg8) : Statement (.setReg b r) := rfl
theorem setMemHl (b : BitVec 3) : Statement (.setMemHl b) := rfl
theorem setMemIdx (x : Idx) (d : Byte) (b : BitVec 3) : Statement (.setMemIdx x d b) := rfl
theorem setMemIdxCopy (x : Idx) (d : Byte) (b : BitVec 3) (r : Reg8) : Statement (.setMemIdxCopy x d b r) := rfl
theorem inRegC (r : Reg8) : Statement (.inRegC r) := rfl
theorem inFC : Statement .inFC := rfl
theorem outCReg (r : Reg8) : Statement (.outCReg r) := rfl
theorem outCZero : Statement .outCZero := rfl
theorem sbcHlPair (p : Pair) : Statement (.sbcHlPair p) := rfl
theorem adcHlPair (p : Pair) : Statement (.adcHlPair p) := rfl
theorem ldMemNnPair (p : Pair) (nn : Word) : Statement (.ldMemNnPair p nn) := rfl
theorem ldPairMemNn (p : Pair) (nn : Word) : Statement (.ldPairMemNn p nn) := rfl
theorem neg (z : BitVec 3) : Statement (.neg z) := rfl
theorem retn (z : BitVec 3) : Statement (.retn z) := rfl
theorem reti : Statement .reti := rfl
theorem im0 (z : BitVec 1) (z2 : BitVec 1) : Statement (.im0 z z2) := rfl
theorem im1 (z : BitVec 1) : Statement (.im1 z) := rfl
theorem im2 (z : BitVec 1) : Statement (.im2 z) := rfl
theorem ldIA : Statement .ldIA := rfl
theorem ldRA : Statement .ldRA := rfl
theorem ldAI : Statement .ldAI := rfl
theorem ldAR : Statement .ldAR := rfl
theorem rrd : Statement .rrd := rfl
theorem rld : Statement .rld := rfl
theorem ldi : Statement .ldi := rfl
theorem cpi : Statement .cpi := rfl
theorem ini : Statement .ini := rfl
theorem outi : Statement .outi := rfl
theorem ldd : Statement .ldd := rfl
theorem cpd : Statement .cpd := rfl
theorem ind : Statement .ind := rfl
theorem outd : Statement .outd := rfl
theorem ldir : Statement .ldir := rfl
theorem cpir : Statement .cpir := rfl
theorem inir : Statement .inir := rfl
theorem otir : Statement .otir := rfl
theorem lddr : Statement .lddr := rfl
theorem cpdr : Statement .cpdr := rfl
theorem indr : Statement .indr := rfl
theorem otdr : Statement .otdr := rfl
theorem nopEdLow (z : BitVec 6) : Statement (.nopEdLow z) := rfl
theorem nopEdHigh (z : BitVec 6) : Statement (.nopEdHigh z) := rfl
theorem nopEdMid (z : BitVec 5) : Statement (.nopEdMid z) := rfl
theorem nopEdBlock (z : BitVec 2) (z2 : BitVec 2) : Statement (.nopEdBlock z z2) := rfl
theorem nopEdSeven (z : BitVec 1) : Statement (.nopEdSeven z) := rfl
theorem addIdxPair (x : Idx) (p : Pair) : Statement (.addIdxPair x p) := rfl
theorem ldIdxImm (x : Idx) (nn : Word) : Statement (.ldIdxImm x nn) := rfl
theorem ldMemNnIdx (x : Idx) (nn : Word) : Statement (.ldMemNnIdx x nn) := rfl
theorem incIdx (x : Idx) : Statement (.incIdx x) := rfl
theorem incHalf (x : Idx) (h : Half) : Statement (.incHalf x h) := rfl
theorem decHalf (x : Idx) (h : Half) : Statement (.decHalf x h) := rfl
theorem ldHalfImm (x : Idx) (h : Half) (n : Byte) : Statement (.ldHalfImm x h n) := rfl
theorem ldIdxMemNn (x : Idx) (nn : Word) : Statement (.ldIdxMemNn x nn) := rfl
theorem decIdx (x : Idx) : Statement (.decIdx x) := rfl
theorem incMemIdx (x : Idx) (d : Byte) : Statement (.incMemIdx x d) := rfl
theorem decMemIdx (x : Idx) (d : Byte) : Statement (.decMemIdx x d) := rfl
theorem ldMemIdxImm (x : Idx) (d : Byte) (n : Byte) : Statement (.ldMemIdxImm x d n) := rfl
theorem ldRegHalf (x : Idx) (r : Reg8) (h : Half) : Statement (.ldRegHalf x r h) := rfl
theorem ldHalfReg (x : Idx) (h : Half) (r : Reg8) : Statement (.ldHalfReg x h r) := rfl
theorem ldHalfHalf (x : Idx) (h : Half) (k : Half) : Statement (.ldHalfHalf x h k) := rfl
theorem ldRegMemIdx (x : Idx) (r : Reg8) (d : Byte) : Statement (.ldRegMemIdx x r d) := rfl
theorem ldMemIdxReg (x : Idx) (r : Reg8) (d : Byte) : Statement (.ldMemIdxReg x r d) := rfl
theorem popIdx (x : Idx) : Statement (.popIdx x) := rfl
theorem exMemSpIdx (x : Idx) : Statement (.exMemSpIdx x) := rfl
theorem pushIdx (x : Idx) : Statement (.pushIdx x) := rfl
theorem jpIdx (x : Idx) : Statement (.jpIdx x) := rfl
theorem ldSpIdx (x : Idx) : Statement (.ldSpIdx x) := rfl
theorem nopPrefix (x : Idx) : Statement (.nopPrefix x) := rfl

end Sys2Proof.Laws.EncodeLength
end

