-- ==== Sys2Proof/Tests/Slice0.lean ====
section
/-! SUPPORT. Tests. The words of the decode tests are written out from the encodings of spec/opcode_table.json and the
field tables of 30_encoding.md R310 to R315; the expected results of the one-step tests are the vectors of
95_test_vectors.md whose number stands above each. The witnesses at the end show that the hypotheses of the statements
can be met. -/

namespace Sys2Proof.Machine.Tests

/-! ## Ill-formed terms -/

/-- There is no `JR PO`, `JR PE`, `JR P` or `JR M` (47_control.md R1104). -/
theorem test_ill_formed_jr : ∀ cc ∈ [Cond.po, .pe, .p, .m], (Instr.jrCond cc 0x00).wellFormed = false := by decide

/-- Under a prefix H and L are unreachable as registers (41_load8.md R515). -/
theorem test_ill_formed_half_loads :
    ∀ r ∈ [Reg8.h, .l], (Instr.ldRegHalf .ix r .high).wellFormed = false ∧
      (Instr.ldHalfReg .iy .low r).wellFormed = false := by decide

/-- The field value 001 of `RETN` is `RETI` (47_control.md R1113). -/
theorem test_ill_formed_retn : (Instr.retn 1).wellFormed = false := by decide

/-! ## Decoding: one word of every row of the opcode table -/

theorem test_decode_load8 :
    ∀ c ∈ ([
      ([0b00000010#8], .ldMemBcA),
      ([0b00010010#8], .ldMemDeA),
      ([0b00110010#8, 0b11100111#8, 0b10111110#8], .ldMemNnA 0xBEE7#16),
      ([0b00011110#8, 0b10011100#8], .ldRegImm .e 0x9C#8),
      ([0b00110110#8, 0b00000101#8], .ldMemHlImm 0x05#8),
      ([0b00001010#8], .ldAMemBc),
      ([0b00011010#8], .ldAMemDe),
      ([0b00111010#8, 0b11110000#8, 0b00010010#8], .ldAMemNn 0x12F0#16),
      ([0b01100000#8], .ldRegReg .h .b),
      ([0b01101110#8], .ldRegMemHl .l),
      ([0b01110001#8], .ldMemHlReg .c),
      ([0b11101101#8, 0b01000111#8], .ldIA),
      ([0b11101101#8, 0b01001111#8], .ldRA),
      ([0b11101101#8, 0b01010111#8], .ldAI),
      ([0b11101101#8, 0b01011111#8], .ldAR),
      ([0b11111101#8, 0b00101110#8, 0b10000000#8], .ldHalfImm .iy .low 0x80#8),
      ([0b11011101#8, 0b00110110#8, 0b11111110#8, 0b01101010#8], .ldMemIdxImm .ix 0xFE#8 0x6A#8),
      ([0b11111101#8, 0b01011101#8], .ldRegHalf .iy .e .low),
      ([0b11011101#8, 0b01100011#8], .ldHalfReg .ix .high .e),
      ([0b11111101#8, 0b01101101#8], .ldHalfHalf .iy .low .low),
      ([0b11011101#8, 0b01100110#8, 0b10000000#8], .ldRegMemIdx .ix .h 0x80#8),
      ([0b11111101#8, 0b01110000#8, 0b10011100#8], .ldMemIdxReg .iy .b 0x9C#8)] : List (List Byte × Instr)),
      decode c.1 = .ok (c.2, []) := by
  decide

theorem test_decode_load16 :
    ∀ c ∈ ([
      ([0b00010001#8, 0b00110001#8, 0b10001010#8], .ldPairImm .de 0x8A31#16),
      ([0b00100010#8, 0b11110000#8, 0b00010010#8], .ldMemNnHl 0x12F0#16),
      ([0b00001000#8], .exAfAf),
      ([0b00101010#8, 0b00110001#8, 0b10001010#8], .ldHlMemNn 0x8A31#16),
      ([0b11110001#8], .popPair .af),
      ([0b11100011#8], .exMemSpHl),
      ([0b11101011#8], .exDeHl),
      ([0b11010101#8], .pushPair .de),
      ([0b11011001#8], .exx),
      ([0b11111001#8], .ldSpHl),
      ([0b11101101#8, 0b01100011#8, 0b00110001#8, 0b10001010#8], .ldMemNnPair .hl 0x8A31#16),
      ([0b11101101#8, 0b01001011#8, 0b11110000#8, 0b00010010#8], .ldPairMemNn .bc 0x12F0#16),
      ([0b11011101#8, 0b00100001#8, 0b11100111#8, 0b10111110#8], .ldIdxImm .ix 0xBEE7#16),
      ([0b11111101#8, 0b00100010#8, 0b00110001#8, 0b10001010#8], .ldMemNnIdx .iy 0x8A31#16),
      ([0b11011101#8, 0b00101010#8, 0b11110000#8, 0b00010010#8], .ldIdxMemNn .ix 0x12F0#16),
      ([0b11011101#8, 0b11100001#8], .popIdx .ix),
      ([0b11111101#8, 0b11100011#8], .exMemSpIdx .iy),
      ([0b11011101#8, 0b11100101#8], .pushIdx .ix),
      ([0b11011101#8, 0b11111001#8], .ldSpIdx .ix)] : List (List Byte × Instr)),
      decode c.1 = .ok (c.2, []) := by
  decide

theorem test_decode_block :
    ∀ c ∈ ([
      ([0b11101101#8, 0b10100000#8], .ldi),
      ([0b11101101#8, 0b10100001#8], .cpi),
      ([0b11101101#8, 0b10100010#8], .ini),
      ([0b11101101#8, 0b10100011#8], .outi),
      ([0b11101101#8, 0b10101000#8], .ldd),
      ([0b11101101#8, 0b10101001#8], .cpd),
      ([0b11101101#8, 0b10101010#8], .ind),
      ([0b11101101#8, 0b10101011#8], .outd),
      ([0b11101101#8, 0b10110000#8], .ldir),
      ([0b11101101#8, 0b10110001#8], .cpir),
      ([0b11101101#8, 0b10110010#8], .inir),
      ([0b11101101#8, 0b10110011#8], .otir),
      ([0b11101101#8, 0b10111000#8], .lddr),
      ([0b11101101#8, 0b10111001#8], .cpdr),
      ([0b11101101#8, 0b10111010#8], .indr),
      ([0b11101101#8, 0b10111011#8], .otdr)] : List (List Byte × Instr)),
      decode c.1 = .ok (c.2, []) := by
  decide

theorem test_decode_alu8_1 :
    ∀ c ∈ ([
      ([0b00010100#8], .incReg .d),
      ([0b00110100#8], .incMemHl),
      ([0b00111101#8], .decReg .a),
      ([0b00110101#8], .decMemHl),
      ([0b00100111#8], .daa),
      ([0b00101111#8], .cpl),
      ([0b00110111#8], .scf),
      ([0b00111111#8], .ccf),
      ([0b10000010#8], .addAReg .d),
      ([0b10000110#8], .addAMemHl),
      ([0b11000110#8, 0b10011100#8], .addAImm 0x9C#8),
      ([0b11011101#8, 0b10000110#8, 0b00000101#8], .addAMemIdx .ix 0x05#8),
      ([0b11111101#8, 0b10000100#8], .addAHalf .iy .high),
      ([0b10001111#8], .adcAReg .a),
      ([0b10001110#8], .adcAMemHl),
      ([0b11001110#8, 0b11111110#8], .adcAImm 0xFE#8),
      ([0b11011101#8, 0b10001110#8, 0b01101010#8], .adcAMemIdx .ix 0x6A#8),
      ([0b11111101#8, 0b10001101#8], .adcAHalf .iy .low),
      ([0b10010011#8], .subAReg .e),
      ([0b10010110#8], .subAMemHl),
      ([0b11010110#8, 0b10000000#8], .subAImm 0x80#8),
      ([0b11011101#8, 0b10010110#8, 0b10011100#8], .subAMemIdx .ix 0x9C#8),
      ([0b11111101#8, 0b10010101#8], .subAHalf .iy .low),
      ([0b10011100#8], .sbcAReg .h),
      ([0b10011110#8], .sbcAMemHl)] : List (List Byte × Instr)),
      decode c.1 = .ok (c.2, []) := by
  decide

theorem test_decode_alu8_2 :
    ∀ c ∈ ([
      ([0b11011110#8, 0b00000101#8], .sbcAImm 0x05#8),
      ([0b11011101#8, 0b10011110#8, 0b11111110#8], .sbcAMemIdx .ix 0xFE#8),
      ([0b11111101#8, 0b10011100#8], .sbcAHalf .iy .high),
      ([0b10100000#8], .andAReg .b),
      ([0b10100110#8], .andAMemHl),
      ([0b11100110#8, 0b01101010#8], .andAImm 0x6A#8),
      ([0b11011101#8, 0b10100110#8, 0b10000000#8], .andAMemIdx .ix 0x80#8),
      ([0b11111101#8, 0b10100101#8], .andAHalf .iy .low),
      ([0b10101101#8], .xorAReg .l),
      ([0b10101110#8], .xorAMemHl),
      ([0b11101110#8, 0b10011100#8], .xorAImm 0x9C#8),
      ([0b11011101#8, 0b10101110#8, 0b00000101#8], .xorAMemIdx .ix 0x05#8),
      ([0b11111101#8, 0b10101101#8], .xorAHalf .iy .low),
      ([0b10110001#8], .orAReg .c),
      ([0b10110110#8], .orAMemHl),
      ([0b11110110#8, 0b11111110#8], .orAImm 0xFE#8),
      ([0b11011101#8, 0b10110110#8, 0b01101010#8], .orAMemIdx .ix 0x6A#8),
      ([0b11111101#8, 0b10110100#8], .orAHalf .iy .high),
      ([0b10111010#8], .cpAReg .d),
      ([0b10111110#8], .cpAMemHl),
      ([0b11111110#8, 0b10000000#8], .cpAImm 0x80#8),
      ([0b11011101#8, 0b10111110#8, 0b10011100#8], .cpAMemIdx .ix 0x9C#8),
      ([0b11111101#8, 0b10111101#8], .cpAHalf .iy .low),
      ([0b11101101#8, 0b01011100#8], .neg 3#3),
      ([0b11111101#8, 0b00101100#8], .incHalf .iy .low)] : List (List Byte × Instr)),
      decode c.1 = .ok (c.2, []) := by
  decide

theorem test_decode_alu8_3 :
    ∀ c ∈ ([
      ([0b11011101#8, 0b00100101#8], .decHalf .ix .high),
      ([0b11011101#8, 0b00110100#8, 0b10011100#8], .incMemIdx .ix 0x9C#8),
      ([0b11111101#8, 0b00110101#8, 0b00000101#8], .decMemIdx .iy 0x05#8)] : List (List Byte × Instr)),
      decode c.1 = .ok (c.2, []) := by
  decide

theorem test_decode_alu16 :
    ∀ c ∈ ([
      ([0b00110011#8], .incPair .sp),
      ([0b00101001#8], .addHlPair .hl),
      ([0b00001011#8], .decPair .bc),
      ([0b11101101#8, 0b01010010#8], .sbcHlPair .de),
      ([0b11101101#8, 0b01111010#8], .adcHlPair .sp),
      ([0b11111101#8, 0b00011001#8], .addIdxPair .iy .de),
      ([0b11011101#8, 0b00100011#8], .incIdx .ix),
      ([0b11111101#8, 0b00101011#8], .decIdx .iy)] : List (List Byte × Instr)),
      decode c.1 = .ok (c.2, []) := by
  decide

theorem test_decode_rotate_bit_1 :
    ∀ c ∈ ([
      ([0b00000111#8], .rlca),
      ([0b00001111#8], .rrca),
      ([0b00010111#8], .rla),
      ([0b00011111#8], .rra),
      ([0b11001011#8, 0b00000111#8], .rlcReg .a),
      ([0b11001011#8, 0b00000110#8], .rlcMemHl),
      ([0b11011101#8, 0b11001011#8, 0b01101010#8, 0b00000110#8], .rlcMemIdx .ix 0x6A#8),
      ([0b11111101#8, 0b11001011#8, 0b10000000#8, 0b00000011#8], .rlcMemIdxCopy .iy 0x80#8 .e),
      ([0b11001011#8, 0b00001100#8], .rrcReg .h),
      ([0b11001011#8, 0b00001110#8], .rrcMemHl),
      ([0b11011101#8, 0b11001011#8, 0b10011100#8, 0b00001110#8], .rrcMemIdx .ix 0x9C#8),
      ([0b11111101#8, 0b11001011#8, 0b00000101#8, 0b00001000#8], .rrcMemIdxCopy .iy 0x05#8 .b),
      ([0b11001011#8, 0b00010101#8], .rlReg .l),
      ([0b11001011#8, 0b00010110#8], .rlMemHl),
      ([0b11011101#8, 0b11001011#8, 0b11111110#8, 0b00010110#8], .rlMemIdx .ix 0xFE#8),
      ([0b11111101#8, 0b11001011#8, 0b01101010#8, 0b00010001#8], .rlMemIdxCopy .iy 0x6A#8 .c),
      ([0b11001011#8, 0b00011010#8], .rrReg .d),
      ([0b11001011#8, 0b00011110#8], .rrMemHl),
      ([0b11011101#8, 0b11001011#8, 0b10000000#8, 0b00011110#8], .rrMemIdx .ix 0x80#8),
      ([0b11111101#8, 0b11001011#8, 0b10011100#8, 0b00011111#8], .rrMemIdxCopy .iy 0x9C#8 .a),
      ([0b11001011#8, 0b00100011#8], .slaReg .e),
      ([0b11001011#8, 0b00100110#8], .slaMemHl),
      ([0b11011101#8, 0b11001011#8, 0b00000101#8, 0b00100110#8], .slaMemIdx .ix 0x05#8),
      ([0b11111101#8, 0b11001011#8, 0b11111110#8, 0b00100100#8], .slaMemIdxCopy .iy 0xFE#8 .h),
      ([0b11001011#8, 0b00101000#8], .sraReg .b)] : List (List Byte × Instr)),
      decode c.1 = .ok (c.2, []) := by
  decide

theorem test_decode_rotate_bit_2 :
    ∀ c ∈ ([
      ([0b11001011#8, 0b00101110#8], .sraMemHl),
      ([0b11011101#8, 0b11001011#8, 0b01101010#8, 0b00101110#8], .sraMemIdx .ix 0x6A#8),
      ([0b11111101#8, 0b11001011#8, 0b10000000#8, 0b00101101#8], .sraMemIdxCopy .iy 0x80#8 .l),
      ([0b11001011#8, 0b00110001#8], .sllReg .c),
      ([0b11001011#8, 0b00110110#8], .sllMemHl),
      ([0b11011101#8, 0b11001011#8, 0b10011100#8, 0b00110110#8], .sllMemIdx .ix 0x9C#8),
      ([0b11111101#8, 0b11001011#8, 0b00000101#8, 0b00110010#8], .sllMemIdxCopy .iy 0x05#8 .d),
      ([0b11001011#8, 0b00111111#8], .srlReg .a),
      ([0b11001011#8, 0b00111110#8], .srlMemHl),
      ([0b11011101#8, 0b11001011#8, 0b11111110#8, 0b00111110#8], .srlMemIdx .ix 0xFE#8),
      ([0b11111101#8, 0b11001011#8, 0b01101010#8, 0b00111011#8], .srlMemIdxCopy .iy 0x6A#8 .e),
      ([0b11001011#8, 0b01011100#8], .bitReg 3#3 .h),
      ([0b11001011#8, 0b01110110#8], .bitMemHl 6#3),
      ([0b11011101#8, 0b11001011#8, 0b10000000#8, 0b01101011#8], .bitMemIdx .ix 0x80#8 5#3 3#3),
      ([0b11001011#8, 0b10110000#8], .resReg 6#3 .b),
      ([0b11001011#8, 0b10101110#8], .resMemHl 5#3),
      ([0b11111101#8, 0b11001011#8, 0b10011100#8, 0b10011110#8], .resMemIdx .iy 0x9C#8 3#3),
      ([0b11011101#8, 0b11001011#8, 0b00000101#8, 0b10110101#8], .resMemIdxCopy .ix 0x05#8 6#3 .l),
      ([0b11001011#8, 0b11101001#8], .setReg 5#3 .c),
      ([0b11001011#8, 0b11011110#8], .setMemHl 3#3),
      ([0b11111101#8, 0b11001011#8, 0b11111110#8, 0b11110110#8], .setMemIdx .iy 0xFE#8 6#3),
      ([0b11011101#8, 0b11001011#8, 0b01101010#8, 0b11101010#8], .setMemIdxCopy .ix 0x6A#8 5#3 .d),
      ([0b11101101#8, 0b01100111#8], .rrd),
      ([0b11101101#8, 0b01101111#8], .rld)] : List (List Byte × Instr)),
      decode c.1 = .ok (c.2, []) := by
  decide

theorem test_decode_control :
    ∀ c ∈ ([
      ([0b00010000#8, 0b11111110#8], .djnz 0xFE#8),
      ([0b00011000#8, 0b01101010#8], .jr 0x6A#8),
      ([0b00110000#8, 0b10000000#8], .jrCond .nc 0x80#8),
      ([0b11101000#8], .retCond .pe),
      ([0b11111010#8, 0b11100111#8, 0b10111110#8], .jpCond .m 0xBEE7#16),
      ([0b11000011#8, 0b00110001#8, 0b10001010#8], .jp 0x8A31#16),
      ([0b11110100#8, 0b11110000#8, 0b00010010#8], .callCond .p 0x12F0#16),
      ([0b11001101#8, 0b11100111#8, 0b10111110#8], .call 0xBEE7#16),
      ([0b11101111#8], .rst 5#3),
      ([0b11001001#8], .ret),
      ([0b11101001#8], .jpHl),
      ([0b11101101#8, 0b01110101#8], .retn 6#3),
      ([0b11101101#8, 0b01001101#8], .reti),
      ([0b11111101#8, 0b11101001#8], .jpIdx .iy)] : List (List Byte × Instr)),
      decode c.1 = .ok (c.2, []) := by
  decide

theorem test_decode_io :
    ∀ c ∈ ([
      ([0b11010011#8, 0b00000101#8], .outImmA 0x05#8),
      ([0b11011011#8, 0b11111110#8], .inAImm 0xFE#8),
      ([0b11101101#8, 0b01111000#8], .inRegC .a),
      ([0b11101101#8, 0b01110000#8], .inFC),
      ([0b11101101#8, 0b01011001#8], .outCReg .e),
      ([0b11101101#8, 0b01110001#8], .outCZero)] : List (List Byte × Instr)),
      decode c.1 = .ok (c.2, []) := by
  decide

theorem test_decode_cpu_control :
    ∀ c ∈ ([
      ([0b00000000#8], .nop),
      ([0b01110110#8], .halt),
      ([0b11110011#8], .di),
      ([0b11111011#8], .ei),
      ([0b11101101#8, 0b01100110#8], .im0 1#1 0#1),
      ([0b11101101#8, 0b01110110#8], .im1 1#1),
      ([0b11101101#8, 0b01011110#8], .im2 0#1),
      ([0b11101101#8, 0b00101101#8], .nopEdLow 45#6),
      ([0b11101101#8, 0b11101101#8], .nopEdHigh 45#6),
      ([0b11101101#8, 0b10010110#8], .nopEdMid 22#5),
      ([0b11101101#8, 0b10110101#8], .nopEdBlock 2#2 1#2),
      ([0b11101101#8, 0b01111111#8], .nopEdSeven 1#1)] : List (List Byte × Instr)),
      decode c.1 = .ok (c.2, []) := by
  decide

/-- The prefix no-op: the byte after it stays where it is (30_encoding.md R308). -/
theorem test_decode_prefix_no_op :
    decode [0b11011101#8, 0b00000000#8] = .ok (.nopPrefix .ix, [0x00]) ∧
    decode [0b11111101#8, 0b11101101#8] = .ok (.nopPrefix .iy, [0xED]) ∧
    decode [0b11011101#8, 0b11011101#8, 0b11001011#8] = .ok (.nopPrefix .ix, [0xDD, 0xCB]) := by decide

/-- A list that ends inside an instruction is refused by name. -/
theorem test_decode_truncated :
    decode [] = .error .truncated ∧ decode [0x21, 0x34] = .error .truncated ∧
    decode [0xDD] = .error .truncated ∧ decode [0xDD, 0xCB, 0x01] = .error .truncated := by decide

/-- The opcode table's numbering: the first byte is the most significant (`LD_p_nn`: match 0x010000). -/
theorem test_table_numbering :
    decodeTableWord 24 0x010000 = some (.ldPairImm .bc 0) ∧ decodeTableWord 16 0xED44 = some (.neg 0) ∧
    decodeTableWord 32 0xDDCB0006 = some (.rlcMemIdx .ix 0) ∧ decodeTableWord 8 0x76 = some .halt := by decide

/-- A word of the table stored at the PC is the instruction the next step fetches. -/
theorem test_with_fetch_word :
    (State.reset.withFetchWord 24 0x010000).fetchInstr = .ldPairImm .bc 0 ∧
    (State.reset.withFetchWord 32 0xDDCB0006).fetchInstr = .rlcMemIdx .ix 0 ∧
    ({ State.reset with halted := true, fatal := some .badInterruptMode } : State).withFetchWord 8 0x3C =
      State.reset.withFetchWord 8 0x3C := by decide

/-! ## One step -/

/-- A machine right after reset with these registers and memory bytes, and a program at `pc`. -/
def start (regs : List (Reg16 × Word)) (mem : List (Word × Byte)) (pc : Word) (prog : List Byte) : State :=
  let s1 := regs.foldl (fun s c => s.set c.1 c.2) State.reset
  let s2 := mem.foldl (fun s c => s.loadBytes c.1 [c.2]) s1
  (s2.set .pc pc).loadBytes pc prog

/-- One step ends with these registers, these bytes, this clock, and whatever else is asked. -/
def shows (s : State) (regs : List (Reg16 × Word)) (mem : List (Word × Byte)) (clock : Nat)
    (more : State → Bool := fun _ => true) : Bool :=
  match step s with
  | .next t => regs.all (fun c => t.get c.1 == c.2) && mem.all (fun c => t.readByte c.1 == c.2) &&
      t.clock == clock && t.fatal.isNone && more t
  | .fault _ => false
  | .refused _ => false

/-- One step ends in exactly this state. -/
def lands (s t : State) : Bool :=
  match step s with
  | .next u => u == t
  | .fault _ => false
  | .refused _ => false

/-- What the result of one step shows. -/
def reports (s : State) (r : Option StepReport) : Bool :=
  match step s with
  | .next u => u.report == r
  | .fault _ => false
  | .refused _ => false

/-- V41.1, R501. -/
theorem test_ld_b_c :
    shows (start [(.bc, 0x005A)] [] 0x0000 [0x41])
      [(.af, 0x0000), (.bc, 0x5A5A), (.pc, 0x0001), (.ir, 0x0001)] [] 4 := by decide

/-- V41.4, R503. -/
theorem test_ld_a_hl :
    shows (start [(.hl, 0x8000)] [(0x8000, 0x3C)] 0x0000 [0x7E])
      [(.af, 0x3C00), (.pc, 0x0001), (.ir, 0x0001)] [] 7 := by decide

/-- V41.8, R505. -/
theorem test_store_discarded_where_not_writable :
    shows { start [(.hl, 0x1000)] [] 0x0000 [0x36, 0x55] with
      params := { Params.initial with readOnly := [⟨0, 0x4000⟩] } }
      [(.af, 0x0000), (.pc, 0x0002), (.ir, 0x0001)] [] 10 := by decide

/-- V41.11, R507. -/
theorem test_ld_a_de_at_the_top_address :
    shows (start [(.de, 0xFFFF)] [(0xFFFF, 0x01)] 0x0000 [0x1A])
      [(.af, 0x0100), (.pc, 0x0001), (.ir, 0x0001)] [] 7 := by decide

/-- V41.16, R512. -/
theorem test_ld_a_ixp5 :
    shows (start [(.ix, 0x8000)] [(0x8005, 0x66)] 0x0000 [0xDD, 0x7E, 0x05])
      [(.af, 0x6600), (.pc, 0x0003), (.ir, 0x0002)] [] 19 := by decide

/-- V41.17, R512. -/
theorem test_ld_b_iym128 :
    shows (start [(.iy, 0x0010)] [(0xFF90, 0x11)] 0x0000 [0xFD, 0x46, 0x80])
      [(.af, 0x0000), (.bc, 0x1100), (.pc, 0x0003), (.ir, 0x0002)] [] 19 := by decide

/-- V41.18, R512. -/
theorem test_ld_h_ixp1 :
    shows (start [(.ix, 0x8000)] [(0x8001, 0x22)] 0x0000 [0xDD, 0x66, 0x01])
      [(.af, 0x0000), (.hl, 0x2200), (.pc, 0x0003), (.ir, 0x0002)] [] 19 := by decide

/-- V41.21, R514. -/
theorem test_ld_ixm2_11 :
    shows (start [(.ix, 0x8000)] [] 0x0000 [0xDD, 0x36, 0xFE, 0x11])
      [(.af, 0x0000), (.pc, 0x0004), (.ir, 0x0002)] [(0x7FFE, 0x11)] 19 := by decide

/-- V41.22, R515. -/
theorem test_ld_ixh_b :
    shows (start [(.bc, 0x1200), (.ix, 0x3456)] [] 0x0000 [0xDD, 0x60])
      [(.af, 0x0000), (.ix, 0x1256), (.pc, 0x0002), (.ir, 0x0002)] [] 8 := by decide

/-- V41.26, R517. -/
theorem test_ld_a_i :
    shows { start [(.af, 0x0001)] [] 0x0000 [0xED, 0x57] with iff2 := true }
      [(.af, 0x0045), (.pc, 0x0002), (.ir, 0x0002)] [] 9 := by decide

/-- V41.28, R518. -/
theorem test_ld_a_r :
    shows (start [(.ir, 0x007F)] [] 0x0000 [0xED, 0x5F])
      [(.af, 0x7F28), (.pc, 0x0002), (.ir, 0x0001)] [] 9 := by decide

/-- V41.29, R518. -/
theorem test_ld_a_r_refreshed_before :
    shows { start [(.ir, 0x007F)] [] 0x0000 [0xED, 0x5F] with
      params := { Params.initial with refreshOrder := .beforeExecute } }
      [(.af, 0x0100), (.pc, 0x0002), (.ir, 0x0001)] [] 9 := by decide

/-- V41.30, R519. -/
theorem test_ld_i_a :
    shows (start [(.af, 0x3F00)] [] 0x0000 [0xED, 0x47])
      [(.af, 0x3F00), (.pc, 0x0002), (.ir, 0x3F02)] [] 9 := by decide

/-- V41.31, R520. -/
theorem test_ld_r_a :
    shows (start [(.af, 0x8000)] [] 0x0000 [0xED, 0x4F])
      [(.af, 0x8000), (.pc, 0x0002), (.ir, 0x0082)] [] 9 := by decide

/-- V42.1, R601. -/
theorem test_ld_bc_1234 :
    shows (start [] [] 0x0000 [0x01, 0x34, 0x12])
      [(.af, 0x0000), (.bc, 0x1234), (.pc, 0x0003), (.ir, 0x0001)] [] 10 := by decide

/-- V42.3, R602. -/
theorem test_ld_hl_ffff :
    shows (start [] [(0xFFFF, 0x34)] 0x0000 [0x2A, 0xFF, 0xFF])
      [(.af, 0x0000), (.hl, 0x2A34), (.pc, 0x0003), (.ir, 0x0001)] [] 16 := by decide

/-- V42.4, R603. -/
theorem test_ld_ffff_hl :
    shows (start [(.hl, 0x1234)] [] 0x0000 [0x22, 0xFF, 0xFF])
      [(.af, 0x0000), (.pc, 0x0003), (.ir, 0x0001)] [(0x0000, 0x12), (0xFFFF, 0x34)] 16 := by decide

/-- V42.9, R606. -/
theorem test_ld_sp_hl :
    shows (start [(.hl, 0x8000)] [] 0x0000 [0xF9])
      [(.af, 0x0000), (.sp, 0x8000), (.pc, 0x0001), (.ir, 0x0001)] [] 6 := by decide

/-- V42.10, R607. -/
theorem test_ld_iy_abcd :
    shows (start [] [] 0x0000 [0xFD, 0x21, 0xCD, 0xAB])
      [(.af, 0x0000), (.iy, 0xABCD), (.pc, 0x0004), (.ir, 0x0002)] [] 14 := by decide

/-- V42.14, R611. -/
theorem test_push_af :
    shows (start [(.af, 0x12D7), (.sp, 0x8000)] [] 0x0000 [0xF5])
      [(.af, 0x12D7), (.sp, 0x7FFE), (.pc, 0x0001), (.ir, 0x0001)] [(0x7FFE, 0xD7), (0x7FFF, 0x12)] 11 := by decide

/-- V42.16, R612. -/
theorem test_pop_af :
    shows (start [(.sp, 0x8000)] [(0x8000, 0xFF), (0x8001, 0x00)] 0x0000 [0xF1])
      [(.af, 0x00FF), (.sp, 0x8002), (.pc, 0x0001), (.ir, 0x0001)] [] 10 := by decide

/-- V42.17, R612. -/
theorem test_pop_hl_at_sp_ffff :
    shows (start [(.sp, 0xFFFF)] [(0xFFFF, 0x34), (0x0000, 0x12)] 0x0100 [0xE1])
      [(.af, 0x0000), (.hl, 0x1234), (.sp, 0x0001), (.pc, 0x0101), (.ir, 0x0001)] [] 10 := by decide

/-- V42.20, R620. -/
theorem test_ex_af_af_shadow :
    shows (start [(.af, 0x1234), (.shAf, 0x5678)] [] 0x0000 [0x08])
      [(.af, 0x5678), (.shAf, 0x1234), (.pc, 0x0001), (.ir, 0x0001)] [] 4 := by decide

/-- V42.22, R621. -/
theorem test_exx :
    shows (start [(.af, 0x4400), (.bc, 0x1111), (.de, 0x2222), (.hl, 0x3333)] [] 0x0000 [0xD9])
      [(.af, 0x4400), (.bc, 0x0000), (.de, 0x0000), (.hl, 0x0000), (.shBc, 0x1111),
        (.shDe, 0x2222), (.shHl, 0x3333), (.pc, 0x0001), (.ir, 0x0001)] [] 4 := by decide

/-- V42.23, R622. -/
theorem test_ex_de_hl :
    shows (start [(.de, 0x1234), (.hl, 0xABCD)] [] 0x0000 [0xEB])
      [(.af, 0x0000), (.de, 0xABCD), (.hl, 0x1234), (.pc, 0x0001), (.ir, 0x0001)] [] 4 := by decide

/-- V42.25, R623. -/
theorem test_ex_sp_hl :
    shows (start [(.hl, 0xABCD), (.sp, 0x8000)] [(0x8000, 0x34), (0x8001, 0x12)] 0x0000 [0xE3])
      [(.af, 0x0000), (.hl, 0x1234), (.pc, 0x0001), (.ir, 0x0001)] [(0x8000, 0xCD), (0x8001, 0xAB)] 19 := by decide

/-- V43.1, R701. -/
theorem test_ldi :
    shows (start [(.bc, 0x0002), (.de, 0x9000), (.hl, 0x8000)] [(0x8000, 0x0A)] 0x0000 [0xED, 0xA0])
      [(.af, 0x002C), (.bc, 0x0001), (.de, 0x9001), (.hl, 0x8001), (.pc, 0x0002),
        (.ir, 0x0002)] [(0x9000, 0x0A)] 16 := by decide

/-- V43.4, R703. -/
theorem test_ldir_repeats :
    shows (start [(.bc, 0x0002), (.de, 0x9000), (.hl, 0x8000)] [(0x8000, 0x11), (0x8001, 0x22)] 0x0000 [0xED, 0xB0])
      [(.af, 0x0004), (.bc, 0x0001), (.de, 0x9001), (.hl, 0x8001), (.pc, 0x0000),
        (.ir, 0x0002)] [(0x9000, 0x11)] 21 := by decide

/-- V43.8, R705. -/
theorem test_cpi_match :
    shows (start [(.af, 0x3C00), (.bc, 0x0005), (.hl, 0x8000)] [(0x8000, 0x3C)] 0x0000 [0xED, 0xA1])
      [(.af, 0x3C46), (.bc, 0x0004), (.hl, 0x8001), (.pc, 0x0002), (.ir, 0x0002)] [] 16 := by decide

/-- V43.14, R709. -/
theorem test_ini :
    shows { start [(.bc, 0x01FE), (.hl, 0x8000)] [] 0x0000 [0xED, 0xA2] with portIn := [0x80] }
      [(.af, 0x0053), (.bc, 0x00FE), (.hl, 0x8001), (.pc, 0x0002), (.ir, 0x0002)] [(0x8000, 0x80)] 16 := by decide

/-- V43.18, R713. -/
theorem test_outi :
    shows (start [(.bc, 0x0110), (.hl, 0x8000)] [(0x8000, 0x42)] 0x0000 [0xED, 0xA3])
      [(.af, 0x0044), (.bc, 0x0010), (.hl, 0x8001), (.pc, 0x0002),
        (.ir, 0x0002)] [] 16 (fun t => t.portLog == [.write 0x10 0x00 0x42]) := by decide

/-- V43.19, R714. -/
theorem test_outd :
    shows (start [(.bc, 0x0210), (.hl, 0x8000)] [(0x8000, 0xFF)] 0x0000 [0xED, 0xAB])
      [(.af, 0x0013), (.bc, 0x0110), (.hl, 0x7FFF), (.pc, 0x0002),
        (.ir, 0x0002)] [] 16 (fun t => t.portLog == [.write 0x10 0x01 0xFF]) := by decide

/-- V44.1, R820. -/
theorem test_add_a_b :
    shows (start [(.af, 0x7F00), (.bc, 0x0100)] [] 0x0000 [0x80])
      [(.af, 0x8094), (.pc, 0x0001), (.ir, 0x0001)] [] 4 := by decide

/-- V44.7, R821. -/
theorem test_adc_a_ff :
    shows (start [(.af, 0x0101)] [] 0x0000 [0xCE, 0xFF])
      [(.af, 0x0111), (.pc, 0x0002), (.ir, 0x0001)] [] 7 := by decide

/-- V44.9, R822. -/
theorem test_sub_1_from_0 :
    shows (start [] [] 0x0000 [0xD6, 0x01])
      [(.af, 0xFFBB), (.pc, 0x0002), (.ir, 0x0001)] [] 7 := by decide

/-- V44.12, R823. -/
theorem test_sbc_a_0 :
    shows (start [(.af, 0x0001)] [] 0x0000 [0xDE, 0x00])
      [(.af, 0xFFBB), (.pc, 0x0002), (.ir, 0x0001)] [] 7 := by decide

/-- V44.14, R824. -/
theorem test_and_0f :
    shows (start [(.af, 0xF000)] [] 0x0000 [0xE6, 0x0F])
      [(.af, 0x0054), (.pc, 0x0002), (.ir, 0x0001)] [] 7 := by decide

/-- V44.20, R827. -/
theorem test_cp_1 :
    shows (start [(.af, 0x1000)] [] 0x0000 [0xFE, 0x01])
      [(.af, 0x1012), (.pc, 0x0002), (.ir, 0x0001)] [] 7 := by decide

/-- V44.24, R830. -/
theorem test_inc_a :
    shows (start [(.af, 0x7F01)] [] 0x0000 [0x3C])
      [(.af, 0x8095), (.pc, 0x0001), (.ir, 0x0001)] [] 4 := by decide

/-- V44.29, R831. -/
theorem test_dec_a_from_0 :
    shows (start [] [] 0x0000 [0x3D])
      [(.af, 0xFFBA), (.pc, 0x0001), (.ir, 0x0001)] [] 4 := by decide

/-- V44.33, R840. -/
theorem test_daa_after_add_a_9a :
    shows (start [(.af, 0x9A00)] [] 0x0000 [0x27])
      [(.af, 0x0055), (.pc, 0x0001), (.ir, 0x0001)] [] 4 := by decide

/-- V44.36, R840. -/
theorem test_daa_outside_the_table :
    shows (start [(.af, 0x1F10)] [] 0x0000 [0x27])
      [(.af, 0x2530), (.pc, 0x0001), (.ir, 0x0001)] [] 4 := by decide

/-- V44.38, R841. -/
theorem test_cpl :
    shows (start [(.af, 0x5A00)] [] 0x0000 [0x2F])
      [(.af, 0xA532), (.pc, 0x0001), (.ir, 0x0001)] [] 4 := by decide

/-- V44.39, R842. -/
theorem test_neg :
    shows (start [(.af, 0x0100)] [] 0x0000 [0xED, 0x44])
      [(.af, 0xFFBB), (.pc, 0x0002), (.ir, 0x0002)] [] 8 := by decide

/-- V44.43, R843. -/
theorem test_ccf_with_c_1 :
    shows (start [(.af, 0x2801)] [] 0x0000 [0x3F])
      [(.af, 0x2838), (.pc, 0x0001), (.ir, 0x0001)] [] 4 := by decide

/-- V44.45, R844. -/
theorem test_scf :
    shows (start [(.af, 0x28D6)] [] 0x0000 [0x37])
      [(.af, 0x28ED), (.pc, 0x0001), (.ir, 0x0001)] [] 4 := by decide

/-- V45.1, R901. -/
theorem test_add_hl_bc :
    shows (start [(.af, 0x00C5), (.bc, 0x0001), (.hl, 0x0FFF)] [] 0x0000 [0x09])
      [(.af, 0x00D4), (.hl, 0x1000), (.pc, 0x0001), (.ir, 0x0001)] [] 11 := by decide

/-- V45.4, R902. -/
theorem test_adc_hl_bc :
    shows (start [(.af, 0x0001), (.hl, 0x7FFF)] [] 0x0000 [0xED, 0x4A])
      [(.af, 0x0094), (.hl, 0x8000), (.pc, 0x0002), (.ir, 0x0002)] [] 15 := by decide

/-- V45.7, R903. -/
theorem test_sbc_hl_bc :
    shows (start [(.bc, 0x0001)] [] 0x0000 [0xED, 0x42])
      [(.af, 0x00BB), (.hl, 0xFFFF), (.pc, 0x0002), (.ir, 0x0002)] [] 15 := by decide

/-- V45.11, R904. -/
theorem test_add_ix_ix :
    shows (start [(.ix, 0x4800)] [] 0x0000 [0xDD, 0x29])
      [(.af, 0x0010), (.ix, 0x9000), (.pc, 0x0002), (.ir, 0x0002)] [] 15 := by decide

/-- V45.14, R905. -/
theorem test_inc_hl :
    shows (start [(.af, 0x00FF), (.hl, 0xFFFF)] [] 0x0000 [0x23])
      [(.af, 0x00FF), (.hl, 0x0000), (.pc, 0x0001), (.ir, 0x0001)] [] 6 := by decide

/-- V46.1, R1001. -/
theorem test_rlca :
    shows (start [(.af, 0x81C4)] [] 0x0000 [0x07])
      [(.af, 0x03C5), (.pc, 0x0001), (.ir, 0x0001)] [] 4 := by decide

/-- V46.3, R1003. -/
theorem test_rla :
    shows (start [(.af, 0x8000)] [] 0x0000 [0x17])
      [(.af, 0x0001), (.pc, 0x0001), (.ir, 0x0001)] [] 4 := by decide

/-- V46.4, R1004. -/
theorem test_rra :
    shows (start [(.af, 0x0101)] [] 0x0000 [0x1F])
      [(.af, 0x8001), (.pc, 0x0001), (.ir, 0x0001)] [] 4 := by decide

/-- V46.5, R1011. -/
theorem test_rlc_b :
    shows (start [(.bc, 0x8000)] [] 0x0000 [0xCB, 0x00])
      [(.af, 0x0001), (.bc, 0x0100), (.pc, 0x0002), (.ir, 0x0002)] [] 8 := by decide

/-- V46.6, R1012. -/
theorem test_rrc_hl :
    shows (start [(.hl, 0x8000)] [(0x8000, 0x01)] 0x0000 [0xCB, 0x0E])
      [(.af, 0x0081), (.pc, 0x0002), (.ir, 0x0002)] [(0x8000, 0x80)] 15 := by decide

/-- V46.9, R1015. -/
theorem test_sla_d :
    shows (start [(.de, 0xC100)] [] 0x0000 [0xCB, 0x22])
      [(.af, 0x0085), (.de, 0x8200), (.pc, 0x0002), (.ir, 0x0002)] [] 8 := by decide

/-- V46.10, R1016. -/
theorem test_sra_e :
    shows (start [(.de, 0x0081)] [] 0x0000 [0xCB, 0x2B])
      [(.af, 0x0085), (.de, 0x00C0), (.pc, 0x0002), (.ir, 0x0002)] [] 8 := by decide

/-- V46.11, R1017. -/
theorem test_sll_h :
    shows (start [(.hl, 0x8000)] [] 0x0000 [0xCB, 0x34])
      [(.af, 0x0001), (.hl, 0x0100), (.pc, 0x0002), (.ir, 0x0002)] [] 8 := by decide

/-- V46.12, R1018. -/
theorem test_srl_l :
    shows (start [(.hl, 0x0001)] [] 0x0000 [0xCB, 0x3D])
      [(.af, 0x0045), (.hl, 0x0000), (.pc, 0x0002), (.ir, 0x0002)] [] 8 := by decide

/-- V46.16, R1020. -/
theorem test_bit_7_a :
    shows (start [(.af, 0x8001)] [] 0x0000 [0xCB, 0x7F])
      [(.af, 0x8091), (.pc, 0x0002), (.ir, 0x0002)] [] 8 := by decide

/-- V46.20, R1022. -/
theorem test_bit_1_ixp5 :
    shows (start [(.ix, 0x2800)] [(0x2805, 0x00)] 0x0000 [0xDD, 0xCB, 0x05, 0x4E])
      [(.af, 0x007C), (.pc, 0x0004), (.ir, 0x0002)] [] 20 := by decide

/-- V46.22, R1023. -/
theorem test_res_0_a :
    shows (start [(.af, 0xFF00)] [] 0x0000 [0xCB, 0x87])
      [(.af, 0xFE00), (.pc, 0x0002), (.ir, 0x0002)] [] 8 := by decide

/-- V46.25, R1024. -/
theorem test_set_0_b :
    shows (start [] [] 0x0000 [0xCB, 0xC0])
      [(.af, 0x0000), (.bc, 0x0100), (.pc, 0x0002), (.ir, 0x0002)] [] 8 := by decide

/-- V46.27, R1025. -/
theorem test_rld :
    shows (start [(.af, 0x1200), (.hl, 0x8000)] [(0x8000, 0x34)] 0x0000 [0xED, 0x6F])
      [(.af, 0x1300), (.pc, 0x0002), (.ir, 0x0002)] [(0x8000, 0x42)] 18 := by decide

/-- V46.28, R1026. -/
theorem test_rrd :
    shows (start [(.af, 0x1200), (.hl, 0x8000)] [(0x8000, 0x34)] 0x0000 [0xED, 0x67])
      [(.af, 0x1404), (.pc, 0x0002), (.ir, 0x0002)] [(0x8000, 0x23)] 18 := by decide

/-- V47.1, R1101. -/
theorem test_jp_1234 :
    shows (start [] [] 0x0000 [0xC3, 0x34, 0x12])
      [(.af, 0x0000), (.pc, 0x1234), (.ir, 0x0001)] [] 10 := by decide

/-- V47.3, R1102. -/
theorem test_jp_pe_with_pv_1 :
    shows (start [(.af, 0x0004)] [] 0x0000 [0xEA, 0x34, 0x12])
      [(.af, 0x0004), (.pc, 0x1234), (.ir, 0x0001)] [] 10 := by decide

/-- V47.5, R1103. -/
theorem test_jr_m2 :
    shows (start [] [] 0x0000 [0x18, 0xFE])
      [(.af, 0x0000), (.pc, 0x0000), (.ir, 0x0001)] [] 12 := by decide

/-- V47.8, R1104. -/
theorem test_jr_c_not_taken :
    shows (start [] [] 0x0000 [0x38, 0x10])
      [(.af, 0x0000), (.pc, 0x0002), (.ir, 0x0001)] [] 7 := by decide

/-- V47.10, R1105. -/
theorem test_djnz_with_b_2 :
    shows (start [(.bc, 0x0200)] [] 0x0000 [0x10, 0xFE])
      [(.af, 0x0000), (.bc, 0x0100), (.pc, 0x0000), (.ir, 0x0001)] [] 13 := by decide

/-- V47.12, R1105. -/
theorem test_djnz_with_b_0 :
    shows (start [] [] 0x0000 [0x10, 0xFE])
      [(.af, 0x0000), (.bc, 0xFF00), (.pc, 0x0000), (.ir, 0x0001)] [] 13 := by decide

/-- V47.13, R1106. -/
theorem test_jp_hl :
    shows (start [(.hl, 0x8000)] [] 0x0000 [0xE9])
      [(.af, 0x0000), (.pc, 0x8000), (.ir, 0x0001)] [] 4 := by decide

/-- V47.15, R1108. -/
theorem test_call_with_sp_0 :
    shows (start [] [] 0x0100 [0xCD, 0x34, 0x12])
      [(.af, 0x0000), (.sp, 0xFFFE), (.pc, 0x1234), (.ir, 0x0001)] [(0xFFFE, 0x03), (0xFFFF, 0x01)] 17 := by decide

/-- V47.16, R1109. -/
theorem test_call_nz_with_z_1 :
    shows (start [(.af, 0x0040), (.sp, 0x8000)] [] 0x0000 [0xC4, 0x34, 0x12])
      [(.af, 0x0040), (.pc, 0x0003), (.ir, 0x0001)] [] 10 := by decide

/-- V47.19, R1111. -/
theorem test_ret_z_not_taken :
    shows (start [(.sp, 0x8000)] [(0x8000, 0x34), (0x8001, 0x12)] 0x0000 [0xC8])
      [(.af, 0x0000), (.pc, 0x0001), (.ir, 0x0001)] [] 5 := by decide

/-- V47.21, R1112. -/
theorem test_retn :
    shows { start [(.sp, 0x8000)] [(0x8000, 0x34), (0x8001, 0x12)] 0x0000 [0xED, 0x45] with
      iff1 := false, iff2 := true }
      [(.af, 0x0000), (.sp, 0x8002), (.pc, 0x1234), (.ir, 0x0002)] [] 14 (fun t => t.iff1 == true) := by decide

/-- V47.23, R1113. -/
theorem test_reti :
    shows { start [(.sp, 0x8000)] [(0x8000, 0x34), (0x8001, 0x12)] 0x0000 [0xED, 0x4D] with
      iff1 := false, iff2 := true }
      [(.af, 0x0000), (.sp, 0x8002), (.pc, 0x1234), (.ir, 0x0002)] [] 14 (fun t => t.iff1 == true) := by decide

/-- V47.24, R1120. -/
theorem test_rst_38 :
    shows (start [(.sp, 0x8000)] [] 0x1234 [0xFF])
      [(.af, 0x0000), (.sp, 0x7FFE), (.pc, 0x0038), (.ir, 0x0001)] [(0x7FFE, 0x35), (0x7FFF, 0x12)] 11 := by decide

/-- V48.1, R1201. -/
theorem test_in_a_fe :
    shows { start [(.af, 0x7FFF)] [] 0x0000 [0xDB, 0xFE] with portIn := [0x1F] }
      [(.af, 0x1FFF), (.pc, 0x0002), (.ir, 0x0001)] [] 11 := by decide

/-- V48.2, R1202. -/
theorem test_out_fe_a :
    shows (start [(.af, 0x0700)] [] 0x0000 [0xD3, 0xFE])
      [(.af, 0x0700), (.pc, 0x0002), (.ir, 0x0001)] [] 11 (fun t => t.portLog == [.write 0xFE 0x07 0x07]) := by decide

/-- V48.3, R1203. -/
theorem test_in_b_c :
    shows { start [(.af, 0x0001), (.bc, 0x1210)] [] 0x0000 [0xED, 0x40] with portIn := [0x00] }
      [(.af, 0x0045), (.bc, 0x0010), (.pc, 0x0002), (.ir, 0x0002)] [] 12 := by decide

/-- V48.6, R1204. -/
theorem test_in_f_c :
    shows { start [(.af, 0x5501), (.bc, 0x12FE)] [] 0x0000 [0xED, 0x70] with portIn := [0x28] }
      [(.af, 0x552D), (.pc, 0x0002), (.ir, 0x0002)] [] 12 := by decide

/-- V48.9, R1206. -/
theorem test_out_c_0 :
    shows (start [(.bc, 0x12FE)] [] 0x0000 [0xED, 0x71])
      [(.af, 0x0000), (.pc, 0x0002), (.ir, 0x0002)] [] 12 (fun t => t.portLog == [.write 0xFE 0x12 0x00]) := by decide

/-- V49.1, R1301. -/
theorem test_nop :
    shows (start [] [] 0x0000 [0x00])
      [(.af, 0x0000), (.pc, 0x0001), (.ir, 0x0001)] [] 4 := by decide

/-- V49.2, R1302. -/
theorem test_halt :
    shows (start [] [] 0x0000 [0x76])
      [(.af, 0x0000), (.pc, 0x0001), (.ir, 0x0001)] [] 4 (fun t => t.halted == true) := by decide

/-- V49.4, R1303. -/
theorem test_di :
    shows { start [] [] 0x0000 [0xF3] with iff1 := true, iff2 := true }
      [(.af, 0x0000), (.pc, 0x0001), (.ir, 0x0001)] [] 4 (fun t => t.iff1 == false && t.iff2 == false) := by decide

/-- V49.5, R1304. -/
theorem test_ei :
    shows (start [] [] 0x0000 [0xFB])
      [(.af, 0x0000), (.pc, 0x0001), (.ir, 0x0001)] [] 4 (fun t => t.iff1 == true && t.iff2 == true) := by decide

/-- V49.7, R1306. -/
theorem test_im_1 :
    shows { start [] [] 0x0000 [0xED, 0x76] with im := 0 }
      [(.af, 0x0000), (.pc, 0x0002), (.ir, 0x0002)] [] 8 (fun t => t.im == 1) := by decide

/-- V49.8, R1307. -/
theorem test_im_2 :
    shows (start [] [] 0x0000 [0xED, 0x5E])
      [(.af, 0x0000), (.pc, 0x0002), (.ir, 0x0002)] [] 8 (fun t => t.im == 2) := by decide

/-- V49.10, R1308. -/
theorem test_prefix_no_op :
    shows (start [] [] 0x0000 [0xFD, 0x00])
      [(.af, 0x0000), (.pc, 0x0001), (.ir, 0x0001)] [] 4 := by decide

/-- V49.12, R1309. -/
theorem test_undefined_ed :
    shows (start [] [] 0x0000 [0xED, 0x00])
      [(.af, 0x0000), (.pc, 0x0002), (.ir, 0x0002)] [] 8 := by decide

/-- V60.1, R1406. -/
theorem test_interrupt_im_1 :
    shows { start [(.sp, 0x8000)] [] 0x0000 [0x00] with im := 1, iff1 := true, iff2 := true, irqQueue := [true] }
      [(.af, 0x0000), (.sp, 0x7FFE), (.pc, 0x0038),
        (.ir, 0x0002)] [(0x7FFE, 0x01)] 17 (fun t => t.iff1 == false && t.iff2 == false) := by decide

/-- V60.8, R1408. -/
theorem test_acceptance_during_ldir :
    shows { start [(.bc, 0x0003), (.de, 0xA000), (.hl, 0x9000), (.sp, 0x8000)] [] 0x0200 [0xED, 0xB0] with
      im := 1, iff1 := true, iff2 := true, irqQueue := [true] }
      [(.af, 0x0004), (.bc, 0x0002), (.de, 0xA001), (.hl, 0x9001), (.sp, 0x7FFE), (.pc, 0x0038),
        (.ir, 0x0003)] [(0x7FFF, 0x02)] 34 (fun t => t.iff1 == false && t.iff2 == false) := by decide

/-- V60.11, R1410. -/
theorem test_im_3_masked :
    shows { start [(.sp, 0x8000)] [] 0x0000 [0x00] with im := 3, iff1 := false, irqQueue := [true] }
      [(.af, 0x0000), (.pc, 0x0001), (.ir, 0x0001)] [] 4 (fun t => t.intPending == true) := by decide

/-- V46.19, R1021: what does not depend on the free latch. -/
theorem test_bit_0_mem_hl :
    shows (start [(.hl, 0x8000)] [] 0x0000 [0xCB, 0x46])
      [(.hl, 0x8000), (.pc, 0x0002), (.ir, 0x0002)] [] 12 := by decide

/-- V60.10, R1410: mode 3 is fatal at the dispatch; the request stays pending and nothing is charged for it. -/
theorem test_bad_interrupt_mode :
    lands { start [(.sp, 0x8000)] [] 0 [] with iff1 := true, iff2 := true, im := 3, irqQueue := [true] }
      { start [(.sp, 0x8000), (.ir, 0x0001)] [] 1 [] with
        iff1 := true, iff2 := true, im := 3, clock := 4, intPending := true, intDeadline := 36,
        fatal := some .badInterruptMode, report := some ⟨⟨1, 4, none, 1⟩, .next⟩ } := by decide

/-- V44.x1, R840, R1410, R409: the strict `DAA` outside the table changes nothing but the fatal marker. -/
theorem test_strict_daa :
    let s : State := { start [(.af, 0x1F10)] [] 0 [0x27] with params := { Params.initial with daaMode := .strict } }
    lands s { s with fatal := some .daaOutOfTable } = true ∧
    lands { s with fatal := some .daaOutOfTable } { s with fatal := some .daaOutOfTable } = true := by decide

/-- R1402, R1404, V60.5's last check: a request lapses at the end of its window. -/
theorem test_request_lapses :
    lands { start [] [] 0 [] with im := 1, clock := 32, intPending := true, intDeadline := 36 }
      { start [(.ir, 0x0001)] [] 1 [] with
        im := 1, clock := 36, intDeadline := 36, report := some ⟨⟨1, 4, none, 1⟩, .next⟩ } := by decide

/-- R1500, R140: a reset keeps memory and, under the silicon profile, sets AF and SP. -/
theorem test_host_reset :
    (start [(.hl, 0x1234)] [(0x8000, 0x55)] 0x4000 []).hostReset = start [] [(0x8000, 0x55)] 0 [] ∧
    (let s : State := { State.reset with params := { Params.initial with resetProfile := .silicon } }
     s.hostReset.get .sp = 0xFFFF ∧ s.hostReset.draws = 1) := by decide

/-- R402, R703: `LDIR` that repeats shows its descriptor (length 2, T = 16, Tslow = 21, ΔR = 2) and RepeatSlow. -/
theorem test_report_of_ldir :
    reports (start [(.bc, 2)] [] 0 [0xED, 0xB0]) (some ⟨⟨2, 16, some 21, 2⟩, .againSlow⟩) := by decide

/-- R402, R1104: a branch not taken shows Next; the step after a halted one shows nothing (R405), whatever stood there. -/
theorem test_report_of_jr_and_of_a_halted_step :
    reports (start [] [] 0 [0x38, 0x02]) (some ⟨⟨2, 7, some 12, 1⟩, .next⟩) = true ∧
    reports { start [] [] 0 [] with halted := true, report := some ⟨⟨1, 4, none, 1⟩, .next⟩ } none = true := by decide

/-! ## Witnesses: states and operands that meet the hypotheses of each statement -/

/-- The state a step ends in. -/
def after (s : State) : State :=
  match step s with
  | .next t => t
  | .fault _ => s
  | .refused _ => s

/-- The state an instruction ends in. -/
def ran (i : Instr) (s : State) : State :=
  match exec i s with
  | .next t => t
  | .fault _ => s
  | .refused _ => s

/-- Whether an answer is a next state. -/
def isNext (r : Result) : Bool :=
  match r with
  | .next _ => true
  | .fault _ => false
  | .refused _ => false

theorem step_after {s : State} (h : isNext (step s) = true) : step s = .next (after s) := by
  unfold after; revert h; cases step s <;> simp [isNext]

theorem exec_ran {i : Instr} {s : State} (h : isNext (exec i s) = true) : exec i s = .next (ran i s) := by
  unfold ran; revert h; cases exec i s <;> simp [isNext]

/-- A machine with a request pending until T-state 32, interrupts on, in this mode. -/
def requested (im : BitVec 2) : State :=
  { start [(.sp, 0x8000), (.ir, 0x3F00)] [(0x3FFF, 0x00), (0x4000, 0x90)] 0 [] with
    iff1 := true, iff2 := true, im := im, intPending := true, intDeadline := 32 }

/-- A halted machine, interrupts on, the request line as given in the next step. -/
def asleep (irq : Bool) : State :=
  { start [(.sp, 0x8000)] [] 0x0001 [] with halted := true, iff1 := true, iff2 := true, im := 1, irqQueue := [irq] }

/-- A machine with the strict `DAA` and an A and F outside its table. -/
def strictDaa (o : RefreshOrder) : State :=
  { start [(.af, 0x1F10)] [] 0 [0x27] with params := { Params.initial with daaMode := .strict, refreshOrder := o } }

/-- DecodeReadsBackEncode: an instruction with a check in WellFormed, and the prefix no-op before a byte it does not
combine with. -/
theorem witness_DecodeReadsBackEncode :
    ((Instr.jrCond .c 0x80).wellFormed = true ∧ (Instr.jrCond .c 0x80).standsBefore [] = true) ∧
    (Instr.nopPrefix .ix).wellFormed = true ∧ (Instr.nopPrefix .ix).standsBefore [0xED] = true := by decide

/-- EveryByteSequenceDecodes: the shortest list. -/
theorem witness_EveryByteSequenceDecodes : 4 ≤ ([0xDD, 0xCB, 0xFF, 0xFF] : List Byte).length := by decide

/-- StepRunsDecodedInstruction: a no-op, and the strict `DAA` for the clause of a fatal fault. -/
theorem witness_StepRunsDecodedInstruction :
    (State.reset.Running ∧ decode [State.reset.readByte 0, State.reset.readByte 1, State.reset.readByte 2,
      State.reset.readByte 3] = .ok (.nop, [0, 0, 0]) ∧ (ran .nop State.reset).fatal = none) ∧
    (strictDaa .afterExecute).Running ∧ (ran .daa (strictDaa .afterExecute)).fatal ≠ none := by decide

/-- HaltedSubstate: `HALT` run; a halted step that stays halted, and one that a request ends. -/
theorem witness_HaltedSubstate :
    exec .halt State.reset = .next (ran .halt State.reset) ∧ (ran .halt State.reset).halted = true ∧
    (∀ b, (asleep b).fatal = none ∧ (asleep b).halted = true ∧ step (asleep b) = .next (after (asleep b))) ∧
    (after (asleep false)).halted = true ∧ (after (asleep true)).halted = false :=
  ⟨exec_ran (by decide), by decide,
    fun b => ⟨by cases b <;> decide, by cases b <;> decide, step_after (by cases b <;> decide)⟩, by decide, by decide⟩

/-- FatalStateStays. -/
theorem witness_FatalStateStays : ({ State.reset with fatal := some .badInterruptMode } : State).fatal ≠ none := by
  decide

/-- ClockAdvances: a step without a fatal fault. -/
theorem witness_ClockAdvances :
    step State.reset = .next (after State.reset) ∧ (after State.reset).fatal = none :=
  ⟨step_after (by decide), by decide⟩

/-- StepKeepsInvariant, NoProgramReachesAFatalFault. -/
theorem witness_StepKeepsInvariant :
    State.reset.Inv ∧ State.reset.im ≠ 3#2 ∧ step State.reset = .next (after State.reset) :=
  ⟨by decide, by decide, step_after (by decide)⟩

/-- ShadowSetOnlyExchanged: an instruction that is no exchange, and each shadow register. -/
theorem witness_ShadowSetOnlyExchanged :
    (Instr.exDeHl ≠ .exAfAf ∧ Instr.exDeHl ≠ .exx ∧ exec .exDeHl State.reset = .next (ran .exDeHl State.reset)) ∧
    Reg16.shAf ∈ [Reg16.shAf, .shBc, .shDe, .shHl] ∧ Reg16.shHl ∈ [Reg16.shAf, .shBc, .shDe, .shHl] :=
  ⟨⟨by decide, by decide, exec_ran (by decide)⟩, by decide⟩

/-- InterruptVectorRegister: instructions that write, read and do neither; a mode that is not 2, and an acceptance in
mode 2 at the last T-state of the window. -/
theorem witness_InterruptVectorRegister :
    (Instr.ldRA ≠ .ldIA ∧ Instr.ldRA ≠ .ldAI ∧ exec .ldRA State.reset = .next (ran .ldRA State.reset)) ∧
    (requested 1).im ≠ 2#2 ∧
    (let s : State := { requested 2 with clock := 31 }
     s.intPending = true ∧ s.clock < s.intDeadline ∧ s.iff1 = true ∧ s.intInhibit = false ∧ s.im = 2#2) :=
  ⟨⟨by decide, by decide, exec_ran (by decide)⟩, by decide, by decide⟩

/-- RefreshKeepsBitSeven. -/
theorem witness_RefreshKeepsBitSeven :
    Instr.ldAR ≠ .ldRA ∧ exec .ldAR State.reset = .next (ran .ldAR State.reset) ∧
    State.reset.fetchInstr ≠ .ldRA ∧ step State.reset = .next (after State.reset) :=
  ⟨by decide, exec_ran (by decide), by decide, step_after (by decide)⟩

/-- FlipFlopAndModeWriters: an instruction under every clause. -/
theorem witness_FlipFlopAndModeWriters :
    exec .nop State.reset = .next (ran .nop State.reset) ∧
    ((∀ z, Instr.nop ≠ .retn z) ∧ Instr.nop ≠ .reti ∧ Instr.nop ≠ .di ∧ Instr.nop ≠ .ei) ∧
    (∀ y z, Instr.nop ≠ .im0 y z) ∧ (∀ z, Instr.nop ≠ .im1 z) ∧ ∀ z, Instr.nop ≠ .im2 z :=
  ⟨exec_ran (by decide), by decide, by decide⟩

/-- IndexRegistersNeedTheirPrefix: an instruction of the other index register for each. -/
theorem witness_IndexRegistersNeedTheirPrefix :
    (exec (.incIdx .iy) State.reset = .next (ran (.incIdx .iy) State.reset) ∧
      (encode (.incIdx .iy)).head? ≠ some 0xDD#8) ∧
    exec (.incIdx .ix) State.reset = .next (ran (.incIdx .ix) State.reset) ∧
      (encode (.incIdx .ix)).head? ≠ some 0xFD#8 :=
  ⟨⟨exec_ran (by decide), by decide⟩, exec_ran (by decide), by decide⟩

/-- HalvesAliasTheRegister. -/
theorem witness_HalvesAliasTheRegister : Reg16.ir ≠ .af := by decide

/-- RequestsThatAreNotAccepted: no window; no request; the window's end; the last T-state of it, masked, right after
`EI`, and in mode 3. -/
theorem witness_RequestsThatAreNotAccepted :
    ({ State.reset with params := { Params.initial with intDuration := 0 } } : State).params.intDuration = 0 ∧
    State.reset.intPending = false ∧
    (let s : State := { requested 1 with clock := 32 }
     s.intPending = true ∧ s.intDeadline ≤ s.clock) ∧
    (let s : State := { requested 1 with clock := 31, iff1 := false }
     s.intPending = true ∧ s.clock < s.intDeadline ∧ s.iff1 = false) ∧
    (let s : State := { requested 1 with clock := 31, intInhibit := true }
     s.intPending = true ∧ s.clock < s.intDeadline ∧ s.intInhibit = true) ∧
    (let s : State := { requested 3 with clock := 31 }
     s.intPending = true ∧ s.clock < s.intDeadline ∧ s.iff1 = true ∧ s.intInhibit = false ∧ s.im = 3#2) := by decide

/-- AcceptanceEntersTheHandler: the three legal modes, at the last T-state of the window. -/
theorem witness_AcceptanceEntersTheHandler :
    ∀ im ∈ [0#2, 1#2, 2#2],
      (let s : State := { requested im with clock := 31 }
       s.intPending = true ∧ s.clock < s.intDeadline ∧ s.iff1 = true ∧ s.intInhibit = false ∧ s.im = im) := by decide

/-- EnableAndDisableAroundTheCheck: with a request in the same step. -/
theorem witness_EnableAndDisableAroundTheCheck :
    (let s : State := { start [] [] 0 [0xFB] with irqQueue := [true] }
     s.Running ∧ step s = .next (after s) ∧ s.fetchInstr = .ei) ∧
    (let s : State := { start [] [] 0 [0xF3] with irqQueue := [true], iff1 := true, iff2 := true }
     s.Running ∧ step s = .next (after s) ∧ s.fetchInstr = .di) :=
  ⟨⟨by decide, step_after (by decide), by decide⟩, by decide, step_after (by decide), by decide⟩

/-- StoresReadBack: the boundary of a protected region, both bytes writable. -/
theorem witness_StoresReadBack :
    (let p : Params := { Params.initial with readOnly := [⟨0, 0x4000⟩] }
     Params.writable p (0x4000#16).toNat = true ∧ Params.writable p (0x4000#16 + 1).toNat = true ∧
     Params.writable p 0x3FFF = false) := by decide

/-- MemoryStaysCanonical. -/
theorem witness_MemoryStaysCanonical :
    Memory.wf [(0, 0x01#8), (65535, 0xFF#8)] = true ∧
    ∀ a : Word, Memory.read [(0, 0x01#8), (65535, 0xFF#8)] a.toNat =
      Memory.read [(0, 0x01#8), (65535, 0xFF#8)] a.toNat := ⟨by decide, fun _ => rfl⟩

/-- HostReset: both profiles. -/
theorem witness_HostReset :
    State.reset.params.resetProfile = .allZero ∧
    ({ State.reset with params := { Params.initial with resetProfile := .silicon } } : State).params.resetProfile =
      .silicon := by decide

/-- BlockLoadMovesItsCounter: the shortest run, and the longest, which starts with BC = 0. -/
theorem witness_BlockLoadMovesItsCounter :
    (0 < 1 ∧ 1 ≤ 65536 ∧ ((start [(.bc, 1)] [] 0 []).get .bc).toNat = 1 % 65536 ∧ 0 < 1) ∧
    0 < 65536 ∧ 65536 ≤ 65536 ∧ (State.reset.get .bc).toNat = 65536 % 65536 ∧ 65535 < 65536 := by decide

/-- DecimalAdjust: the total mode on an input outside the table, the strict mode on one of the table. -/
theorem witness_DecimalAdjust :
    (start [(.af, 0x1F10)] [] 0 []).params.daaMode = .total ∧ daaInTable 0x3C 0x00 = true ∧
    daaInTable 0x00 0x00 = true ∧ daaInTable 0x1F 0x10 = false := by decide

/-- StrictDecimalAdjustIsFatal: both refresh orders. -/
theorem witness_StrictDecimalAdjustIsFatal :
    ∀ o ∈ [RefreshOrder.afterExecute, .beforeExecute], (strictDaa o).params.daaMode = .strict ∧
      daaInTable (strictDaa o).a (strictDaa o).f = false ∧ (strictDaa o).params.refreshOrder = o := by decide

/-- DecimalAdjustFollowsTheTable: the first and the last input of every row. -/
theorem witness_DecimalAdjustFollowsTheTable :
    ∀ row ∈ daaTable, let f := BitVec.ofNat 8 (row.c.toNat + 2 * row.n.toNat + 16 * row.h.toNat)
      row.matches (BitVec.ofNat 8 (16 * row.highFrom + row.lowFrom)) f = true ∧
      row.matches (BitVec.ofNat 8 (16 * row.highTo + row.lowTo)) f = true := by decide

/-- BitWrites: the lowest and the highest bit. -/
theorem witness_BitWrites : 0 < 8 ∧ 7 < 8 := by decide

/-- CompletionStateAndDescriptor: an instruction that is no strict `DAA`, and two that report from two states; every
clause about a step, running and halted. -/
theorem witness_CompletionStateAndDescriptor :
    (¬ strictDaaFails .nop (strictDaa .afterExecute) ∧ ¬ strictDaaFails .daa State.reset) ∧
    (exec .ldir State.reset = .next (ran .ldir State.reset) ∧
      exec .ldir (start [(.bc, 1)] [] 0 []) = .next (ran .ldir (start [(.bc, 1)] [] 0 [])) ∧
      (ran .ldir State.reset).report = some ⟨⟨2, 16, some 21, 2⟩, .againSlow⟩ ∧
      (ran .ldir (start [(.bc, 1)] [] 0 [])).report = some ⟨⟨2, 16, some 21, 2⟩, .next⟩) ∧
    (State.reset.fatal = none ∧ State.reset.halted = false ∧ step State.reset = .next (after State.reset)) ∧
    (asleep false).fatal = none ∧ (asleep false).halted = true ∧ step (asleep false) = .next (after (asleep false)) :=
  ⟨by decide, ⟨exec_ran (by decide), exec_ran (by decide), by decide, by decide⟩,
    ⟨by decide, by decide, step_after (by decide)⟩, by decide, by decide, step_after (by decide)⟩

/-- CallsAndRestarts, Returns: a condition that holds and one that does not, in one state. -/
theorem witness_CallsAndReturns :
    (start [(.af, 0x0040)] [] 0 []).cond .z = true ∧ (start [(.af, 0x0040)] [] 0 []).cond .nz = false := by decide

end Sys2Proof.Machine.Tests
end

section
/-! PROOFS of 10_state.md: the halves of a register (R101), the shadow set (R103) and I (R110). Who reads and writes a
shadow register or I is one statement: writing another value there commutes with every operation that an instruction
is made of, so `exec` neither reads nor changes it, but for the two instructions that the spec names. -/

namespace Sys2Proof.Machine

/-! ## Halves (R101) -/

/-- Settles O18: a write of a half is a write of the register, which reads back at that register only. -/
theorem halvesAliasTheRegister : Obligations.HalvesAliasTheRegister := by
  intro s g v w
  refine ⟨State.get_set_self s g _, State.get_set_self s g _, ?_, ?_, ?_, fun k hk => ⟨?_, fun h => ?_⟩⟩
  · simp [State.getHalf]
  · simp [State.getHalf]
  · simp [State.getHalf]
  · exact State.get_set_ne s hk.symm w
  · exact State.get_setHalf_ne s hk.symm h v

/-! ## State that no ordinary instruction sees (R103, R110) -/

/-- The shadow registers (R103). -/
def shadowSet : List Reg16 := [.shAf, .shBc, .shDe, .shHl]

/-- Neither a shadow register nor the pair of I and R. -/
def Reg16.ordinary (g : Reg16) : Bool := g ∉ Reg16.ir :: shadowSet

theorem Reg16.ne_of_mem_shadowSet {g r : Reg16} (hg : g ∈ shadowSet) (hr : r.ordinary = true) : g ≠ r := by
  rintro rfl
  simp [ordinary, hg] at hr

@[simp] theorem ordinary_af : Reg16.ordinary .af = true := by decide
@[simp] theorem ordinary_bc : Reg16.ordinary .bc = true := by decide
@[simp] theorem ordinary_de : Reg16.ordinary .de = true := by decide
@[simp] theorem ordinary_hl : Reg16.ordinary .hl = true := by decide
@[simp] theorem ordinary_ix : Reg16.ordinary .ix = true := by decide
@[simp] theorem ordinary_iy : Reg16.ordinary .iy = true := by decide
@[simp] theorem ordinary_sp : Reg16.ordinary .sp = true := by decide
@[simp] theorem ordinary_pc : Reg16.ordinary .pc = true := by decide
@[simp] theorem ordinary_pairReg (p : Pair) : (pairReg p).ordinary = true := by cases p <;> rfl
@[simp] theorem ordinary_pairAfReg (q : PairAf) : (pairAfReg q).ordinary = true := by cases q <;> rfl
@[simp] theorem ordinary_idxReg (x : Idx) : (idxReg x).ordinary = true := by cases x <;> rfl
@[simp] theorem ordinary_idxPairReg (x : Idx) (p : Pair) : (idxPairReg x p).ordinary = true := by
  cases x <;> cases p <;> rfl
@[simp] theorem ordinary_reg8Home (r : Reg8) : (reg8Home r).ordinary = true := by cases r <;> rfl

theorem Reg16.ne_ir_of_mem_shadowSet {g : Reg16} (hg : g ∈ shadowSet) : g ≠ .ir := by
  rintro rfl
  revert hg
  decide

/-- A new value for a piece of reserved state: a shadow register (R103), or I (R110). -/
inductive Reserved where
  | shadow (g : Reg16) (hg : g ∈ shadowSet) (w : Word)
  | vector (v : Byte)

namespace Reserved

/-- The value written. -/
def write (u : Reserved) (s : State) : State :=
  match u with
  | .shadow g _ w => s.set g w
  | .vector v => s.setHi .ir v

theorem shadow_write (g : Reg16) (hg : g ∈ shadowSet) (w : Word) (s : State) :
    (shadow g hg w).write s = s.set g w := rfl

theorem vector_write (v : Byte) (s : State) : (vector v).write s = s.setHi .ir v := rfl

/-- The only instructions that see the piece of state. -/
def users (u : Reserved) : List Instr :=
  match u with
  | .shadow _ _ _ => [.exAfAf, .exx]
  | .vector _ => [.ldIA, .ldAI]

variable (u : Reserved) (s : State)

/-! ## What reads as before after the write -/

@[simp] theorem write_iff1 : (u.write s).iff1 = s.iff1 := by cases u <;> rfl
@[simp] theorem write_iff2 : (u.write s).iff2 = s.iff2 := by cases u <;> rfl
@[simp] theorem write_im : (u.write s).im = s.im := by cases u <;> rfl
@[simp] theorem write_intPending : (u.write s).intPending = s.intPending := by cases u <;> rfl
@[simp] theorem write_intDeadline : (u.write s).intDeadline = s.intDeadline := by cases u <;> rfl
@[simp] theorem write_intInhibit : (u.write s).intInhibit = s.intInhibit := by cases u <;> rfl
@[simp] theorem write_clock : (u.write s).clock = s.clock := by cases u <;> rfl
@[simp] theorem write_params : (u.write s).params = s.params := by cases u <;> rfl

@[simp] theorem write_readByte (a : Word) : (u.write s).readByte a = s.readByte a := by cases u <;> rfl
@[simp] theorem write_readWord (a : Word) : (u.write s).readWord a = s.readWord a := by simp [State.readWord]
@[simp] theorem write_portValue (p q : Byte) : (u.write s).portValue p q = s.portValue p q := by cases u <;> rfl
@[simp] theorem write_drawnLatch : (u.write s).drawnLatch = s.drawnLatch := by cases u <;> rfl

/-- No ordinary register changes. -/
@[simp] theorem write_get {r : Reg16} (hr : r.ordinary = true) : (u.write s).get r = s.get r := by
  cases u with
  | shadow g hg w => exact State.get_set_ne s (Reg16.ne_of_mem_shadowSet hg hr) w
  | vector v => exact State.get_set_ne s (by rintro rfl; exact absurd hr (by decide)) _

/-- R is the half of IR that is not I. -/
@[simp] theorem write_r : (u.write s).r = s.r := by
  cases u with
  | shadow g hg w => simp [write, State.r, State.get_set_ne s (Reg16.ne_ir_of_mem_shadowSet hg)]
  | vector v => simp [write, State.setHi, State.r]

@[simp] theorem write_a : (u.write s).a = s.a := by simp [State.a]
@[simp] theorem write_f : (u.write s).f = s.f := by simp [State.f]
@[simp] theorem write_popValue : (u.write s).popValue = s.popValue := by simp [State.popValue]
@[simp] theorem write_getHalf {r : Reg16} (hr : r.ordinary = true) (h : Half) :
    (u.write s).getHalf r h = s.getHalf r h := by
  cases h <;> simp [State.getHalf, hr]
@[simp] theorem write_reg8 (r : Reg8) : (u.write s).reg8 r = s.reg8 r := by simp [State.reg8]
@[simp] theorem write_xh (x : Idx) (h : Half) : (u.write s).xh x h = s.xh x h := by simp [State.xh]
@[simp] theorem write_ea (x : Idx) (d : Byte) : (u.write s).ea x d = s.ea x d := by simp [State.ea]
@[simp] theorem write_cond (cc : Cond) : (u.write s).cond cc = s.cond cc := by cases cc <;> simp [State.cond]
@[simp] theorem write_relative (e : Byte) : (u.write s).relative e = s.relative e := by simp [State.relative]

/-! ## The operations it may be exchanged with -/

@[simp] theorem set_write {r : Reg16} (hr : r.ordinary = true) (x : Word) :
    (u.write s).set r x = u.write (s.set r x) := by
  cases u with
  | shadow g hg w => exact State.set_comm s (Reg16.ne_of_mem_shadowSet hg hr) w x
  | vector v =>
    have hir : Reg16.ir ≠ r := by rintro rfl; exact absurd hr (by decide)
    simp only [write, State.setHi, State.get_set_ne s hir.symm]
    exact State.set_comm s hir _ x

/-- A write of R. -/
@[simp] theorem setLo_ir_write (x : Byte) : (u.write s).setLo .ir x = u.write (s.setLo .ir x) := by
  cases u with
  | shadow g hg w =>
    have hir := Reg16.ne_ir_of_mem_shadowSet hg
    simp only [write, State.setLo, State.get_set_ne s hir]
    exact State.set_comm s hir w _
  | vector v => simp [write, State.setHi, State.setLo]

theorem shadow_i (g : Reg16) (hg : g ∈ shadowSet) (w : Word) : ((shadow g hg w).write s).i = s.i := by
  simp [write, State.i, State.get_set_ne s (Reg16.ne_ir_of_mem_shadowSet hg)]

theorem setHi_ir_shadow (g : Reg16) (hg : g ∈ shadowSet) (w : Word) (x : Byte) :
    ((shadow g hg w).write s).setHi .ir x = (shadow g hg w).write (s.setHi .ir x) := by
  have hir := Reg16.ne_ir_of_mem_shadowSet hg
  simp only [write, State.setHi, State.get_set_ne s hir]
  exact State.set_comm s hir w _

@[simp] theorem tick_write (n : Nat) : (u.write s).tick n = u.write (s.tick n) := by cases u <;> rfl
@[simp] theorem drawDone_write : (u.write s).drawDone = u.write s.drawDone := by cases u <;> rfl
@[simp] theorem reporting_write (o : Option StepReport) : (u.write s).reporting o = u.write (s.reporting o) := by
  cases u <;> rfl
@[simp] theorem portRead_write (p q : Byte) : (u.write s).portRead p q = u.write (s.portRead p q) := by
  cases u <;> rfl
@[simp] theorem portWrite_write (p q v : Byte) : (u.write s).portWrite p q v = u.write (s.portWrite p q v) := by
  cases u <;> rfl
@[simp] theorem writeByte_write (a : Word) (v : Byte) :
    (u.write s).writeByte a v = u.write (s.writeByte a v) := by
  simp only [State.writeByte_eq]; cases u <;> rfl

@[simp] theorem writeWord_write (a v : Word) : (u.write s).writeWord a v = u.write (s.writeWord a v) := by
  simp [State.writeWord]
@[simp] theorem push16_write (v : Word) : (u.write s).push16 v = u.write (s.push16 v) := by simp [State.push16]
@[simp] theorem popDone_write : (u.write s).popDone = u.write s.popDone := by simp [State.popDone]
@[simp] theorem refresh_write (k : Nat) : (u.write s).refresh k = u.write (s.refresh k) := by simp [State.refresh]
@[simp] theorem refreshIf_write (o : RefreshOrder) (k : Nat) :
    (u.write s).refreshIf o k = u.write (s.refreshIf o k) := by
  simp [State.refreshIf, apply_ite u.write]
@[simp] theorem advance_write (d : Desc) (c : Completion) : (u.write s).advance d c = u.write (s.advance d c) := by
  cases c <;> simp [State.advance]

@[simp] theorem setHalf_write {r : Reg16} (hr : r.ordinary = true) (h : Half) (v : Byte) :
    (u.write s).setHalf r h v = u.write (s.setHalf r h v) := by
  cases h <;> simp [State.setHalf, State.setHi, State.setLo, hr]
@[simp] theorem setReg8_write (r : Reg8) (v : Byte) : (u.write s).setReg8 r v = u.write (s.setReg8 r v) := by
  simp [State.setReg8]
@[simp] theorem setXh_write (x : Idx) (h : Half) (v : Byte) : (u.write s).setXh x h v = u.write (s.setXh x h v) := by
  simp [State.setXh]
@[simp] theorem setA_write (v : Byte) : (u.write s).setA v = u.write (s.setA v) := by simp [State.setA_eq]
@[simp] theorem setF_write (v : Byte) : (u.write s).setF v = u.write (s.setF v) := by
  simp [State.setF, State.setLo]
@[simp] theorem setAF_write (v : Byte × Byte) : (u.write s).setAF v = u.write (s.setAF v) := by simp [State.setAF]

@[simp] theorem accumulate_write (op : AluOp) (v : Byte) :
    (u.write s).accumulate op v = u.write (s.accumulate op v) := by simp [State.accumulate]
@[simp] theorem putReg8_write (r : Reg8) (v : Byte × Byte) : (u.write s).putReg8 r v = u.write (s.putReg8 r v) := by
  simp [State.putReg8]
@[simp] theorem putXh_write (x : Idx) (h : Half) (v : Byte × Byte) :
    (u.write s).putXh x h v = u.write (s.putXh x h v) := by simp [State.putXh]
@[simp] theorem putByte_write (a : Word) (v : Byte × Byte) : (u.write s).putByte a v = u.write (s.putByte a v) := by
  simp [State.putByte]
@[simp] theorem putWord_write {r : Reg16} (hr : r.ordinary = true) (v : Word × Byte) :
    (u.write s).putWord r v = u.write (s.putWord r v) := by simp [State.putWord, hr]
@[simp] theorem writeCopy_write (a : Word) (r : Reg8) (v : Byte) :
    (u.write s).writeCopy a r v = u.write (s.writeCopy a r v) := by simp [State.writeCopy]
@[simp] theorem rotMem_write (op : RotOp) (a : Word) : (u.write s).rotMem op a = u.write (s.rotMem op a) := by
  simp [State.rotMem]
@[simp] theorem rotMemCopy_write (op : RotOp) (a : Word) (r : Reg8) :
    (u.write s).rotMemCopy op a r = u.write (s.rotMemCopy op a r) := by simp [State.rotMemCopy]
@[simp] theorem digits_write (m v : Byte) : (u.write s).digits m v = u.write (s.digits m v) := by simp [State.digits]
@[simp] theorem exchange_write {p q : Reg16} (hp : p.ordinary = true) (hq : q.ordinary = true) :
    (u.write s).exchange p q = u.write (s.exchange p q) := by simp [State.exchange, hp, hq]
@[simp] theorem exchangeTop_write {p : Reg16} (hp : p.ordinary = true) :
    (u.write s).exchangeTop p = u.write (s.exchangeTop p) := by simp [State.exchangeTop, hp]
@[simp] theorem callTo_write (len : Nat) (w : Word) : (u.write s).callTo len w = u.write (s.callTo len w) := by
  simp [State.callTo]
@[simp] theorem returnTo_write : (u.write s).returnTo = u.write s.returnTo := by simp [State.returnTo]
@[simp] theorem returnFromInterrupt_write :
    (u.write s).returnFromInterrupt = u.write s.returnFromInterrupt := by
  simp only [returnFromInterrupt_eq, returnTo_write]; cases u <;> rfl

@[simp] theorem ldUnit_write (d : Dir) : (u.write s).ldUnit d = u.write (s.ldUnit d) := by simp [State.ldUnit]
@[simp] theorem cpUnit_write (d : Dir) : (u.write s).cpUnit d = u.write (s.cpUnit d) := by simp [State.cpUnit]
@[simp] theorem inUnit_write (d : Dir) : (u.write s).inUnit d = u.write (s.inUnit d) := by simp [State.inUnit]
@[simp] theorem outUnit_write (d : Dir) : (u.write s).outUnit d = u.write (s.outUnit d) := by simp [State.outUnit]

end Reserved

/-! ## Instructions that do not see it -/

/-- An effect's end, with the state it leaves changed by `g`. -/
def Effect.map (g : State → State) (e : Effect) : Effect :=
  match e with
  | .done c s => .done c (g s)
  | .fatal k s => .fatal k (g s)

@[simp] theorem Effect.map_done (g : State → State) (c : Completion) (s : State) :
    (Effect.done c s).map g = .done c (g s) := rfl

@[simp] theorem Effect.map_fatal (g : State → State) (k : FatalKind) (s : State) :
    (Effect.fatal k s).map g = .fatal k (g s) := rfl

@[simp] theorem Effect.map_ite (g : State → State) (p : Prop) [Decidable p] (e f : Effect) :
    (if p then e else f).map g = if p then e.map g else f.map g := apply_ite (Effect.map g) p e f

/-- A meaning neither reads nor writes the reserved state: with another value there it does the same and leaves
that value. -/
def Blind (u : Reserved) (m : State → Result) : Prop :=
  ∀ s t, m s = .next t → m (u.write s) = .next (u.write t)

theorem blind_sequencer {u : Reserved} {d : Desc} {eff : State → Effect}
    (heff : ∀ s, eff (u.write s) = (eff s).map u.write) : Blind u (sequencer d eff) := by
  intro s t h
  have hw : eff ((u.write s).refreshIf .beforeExecute d.rDelta) =
      (eff (s.refreshIf .beforeExecute d.rDelta)).map u.write := by rw [u.refreshIf_write, heff]
  obtain ⟨c, v, hv, hs⟩ | ⟨k, v, hv, hs⟩ := sequencer_cases d eff s
  · obtain rfl := Host.Outcome.next.inj (hs.symm.trans h)
    simp only [sequencer, hw, hv, Effect.map_done]
    simp
  · obtain rfl := Host.Outcome.next.inj (hs.symm.trans h)
    simp only [sequencer, hw, hv, Effect.map_fatal]
    cases u <;> rfl

theorem blind_straight {u : Reserved} {len t k : Nat} {f : State → State}
    (hf : ∀ s, f (u.write s) = u.write (f s)) : Blind u (straight len t k f) :=
  blind_sequencer fun s => congrArg (Effect.done .next) (hf s)

theorem blind_jumping {u : Reserved} {len t k : Nat} {f : State → State}
    (hf : ∀ s, f (u.write s) = u.write (f s)) : Blind u (jumping len t k f) :=
  blind_sequencer fun s => congrArg (Effect.done .again) (hf s)

/-- Only its users see a piece of reserved state. -/
theorem exec_blind (u : Reserved) (i : Instr) (h : i ∉ u.users) : Blind u (exec i) := by
  unfold exec
  cases i with
  | exAfAf | exx =>
    cases u with
    | shadow g hg w => simp [Reserved.users] at h
    | vector v => exact blind_straight fun _ => rfl
  | ldIA | ldAI =>
    cases u with
    | shadow g hg w => exact blind_straight fun s => by simp [Reserved.shadow_i, Reserved.setHi_ir_shadow]
    | vector v => simp [Reserved.users] at h
  | halt | di | ei | im0 | im1 | im2 =>
    exact blind_straight fun s => by cases u <;> rfl
  | jp | jr | jpHl | jpIdx | call | ret | retn | reti | rst =>
    exact blind_jumping fun s => by simp
  | jpCond | jrCond | callCond | retCond | djnz | daa | ldir | lddr | cpir | cpdr | inir | indr | otir | otdr =>
    exact blind_sequencer fun s => by simp
  | _ => exact blind_straight fun s => by simp

/-- A value that is there already is there afterwards. -/
theorem Blind.write_eq_self {u : Reserved} {m : State → Result} (hm : Blind u m) {s t : State}
    (hs : u.write s = s) (h : m s = .next t) : u.write t = t := by
  have ht := hm s t h
  rw [hs, h] at ht
  exact (Host.Outcome.next.inj ht).symm

/-! ## The exchanges with the shadow set (42_load16.md R620, R621) -/

theorem State.get_exchange (s : State) (p q g : Reg16) :
    (s.exchange p q).get g = if q = g then s.get p else if p = g then s.get q else s.get g := by
  simp [State.exchange, State.get_set]

/-- An instruction whose effect changes nothing but the registers listed, the PC and IR not among them. -/
theorem runsQuiet_of_registers {i : Instr} {s : State} {len cost k : Nat} {f : State → State} {but : List Reg16}
    {Q : State → Prop} (he : exec i s = straight len cost k f s) (hpc : .pc ∉ but) (hir : .ir ∉ but)
    (hf : ∀ w, ∃ g, f (s.set .ir w) = { s with regs := g })
    (hkeep : ∀ w g, g ∉ but → (f (s.set .ir w)).get g = (s.set .ir w).get g)
    (hQ : ∀ w p n w2 o, Q (((((f (s.set .ir w)).set .pc p).tick n).set .ir w2).reporting o)) :
    RunsQuiet i s len cost k but Q := by
  refine runsTo_of_straight he fun w => ?_
  obtain ⟨r, hr⟩ := hf w
  refine ⟨?_, by rw [hr], ?_, by rw [hr], ?_, fun g hg => ?_, fun p n w2 o => ⟨?_, ?_, hQ w p n w2 o⟩⟩
  · rw [hkeep w _ hpc, State.get_set_ne s (by decide)]
  · rw [hkeep w _ hir, State.get_set_self]
  · simp [hr, SameControl]
  · simp only [List.mem_cons, not_or] at hg
    obtain ⟨-, hgir, hbut⟩ := hg
    rw [hkeep w g hbut, State.get_set_ne s (Ne.symm hgir)]
  · simp [hr, SameBytes, State.readByte]
  · simp [hr, SamePorts]

/-- `EX AF,AF'` (R620). -/
theorem exAfAf_exchanges (s : State) : RunsQuiet .exAfAf s 1 4 1 [.af, .shAf] fun t =>
    t.get .af = s.get .shAf ∧ t.get .shAf = s.get .af := by
  refine runsQuiet_of_registers (exec_exAfAf s) (by decide) (by decide) (fun _ => ⟨_, rfl⟩) (fun w g hg => ?_) ?_
  · simp only [List.mem_cons, not_or] at hg
    simp [State.get_exchange, hg, Ne.symm]
  · simp [State.exchange]

/-- `EXX` (R621). -/
theorem exx_exchanges (s : State) : RunsQuiet .exx s 1 4 1 [.bc, .de, .hl, .shBc, .shDe, .shHl] fun t =>
    t.get .bc = s.get .shBc ∧ t.get .shBc = s.get .bc ∧ t.get .de = s.get .shDe ∧ t.get .shDe = s.get .de ∧
    t.get .hl = s.get .shHl ∧ t.get .shHl = s.get .hl := by
  refine runsQuiet_of_registers (exec_exx s) (by decide) (by decide) (fun _ => ⟨_, rfl⟩) (fun w g hg => ?_) ?_
  · simp only [List.mem_cons, not_or] at hg
    simp [State.get_exchange, hg, Ne.symm]
  · simp [State.exchange]

/-- Settles O13: the two exchanges as they run, and every other instruction blind to the shadow set. -/
theorem shadowSetOnlyExchanged : Obligations.ShadowSetOnlyExchanged := by
  refine ⟨exAfAf_exchanges, exx_exchanges, fun i s t haf hexx h g hg => ?_⟩
  have hblind : ∀ w, Blind (.shadow g hg w) (exec i) := fun w => exec_blind _ i (by simp [Reserved.users, haf, hexx])
  have hkeep : t.set g (s.get g) = t := (hblind (s.get g)).write_eq_self (s.set_get_self g) h
  refine ⟨?_, fun w => hblind w s t h⟩
  rw [← hkeep, State.get_set_self]

/-! ## I (41_load8.md R517, R519; 60_exceptions.md R1406) -/

theorem State.refreshIf_i (s : State) (o : RefreshOrder) (k : Nat) : (s.refreshIf o k).i = s.i := by
  unfold State.refreshIf
  split
  · exact State.refresh_i s k
  · rfl

theorem State.refreshIf_a (s : State) (o : RefreshOrder) (k : Nat) : (s.refreshIf o k).a = s.a := by
  obtain ⟨w, hw⟩ := State.refreshIf_eq_set s o k
  rw [hw, State.set_ir_a]

theorem State.setHi_ir_i (s : State) : s.setHi .ir s.i = s := by
  simp [State.setHi, State.i]

theorem State.i_setHi_ir (s : State) (v : Byte) : (s.setHi .ir v).i = v := by
  simp [State.setHi, State.i]

theorem State.i_set_ne (s : State) {g : Reg16} (hg : g ≠ .ir) (w : Word) : (s.set g w).i = s.i := by
  simp [State.i, State.get_set_ne s hg]

/-- What stands around an effect in the sequencer changes neither A nor I. -/
theorem straight_keeps_a_and_i (len n k : Nat) (f : State → State) (s : State) :
    ∃ t, straight len n k f s = .next t ∧ t.a = (f (s.refreshIf .beforeExecute k)).a ∧
      t.i = (f (s.refreshIf .beforeExecute k)).i := by
  refine ⟨_, rfl, ?_, ?_⟩
  · simp [State.refreshIf_a, State.advance]
  · exact (State.refreshIf_i _ _ _).trans (State.i_set_ne _ (by decide) _)

/-- `LD I,A` (R519). -/
theorem ldIA_writes_i (s : State) : ∃ t, exec .ldIA s = .next t ∧ t.i = s.a := by
  obtain ⟨t, ht, -, hi⟩ := straight_keeps_a_and_i 2 9 2 (fun s => s.setHi .ir s.a) s
  refine ⟨t, ht, ?_⟩
  rw [hi, State.i_setHi_ir, State.refreshIf_a]

/-- `LD A,I` (R517). -/
theorem ldAI_reads_i (s : State) : ∃ t, exec .ldAI s = .next t ∧ t.a = s.i ∧ t.i = s.i := by
  obtain ⟨t, ht, ha, hi⟩ := straight_keeps_a_and_i 2 9 2 (fun s => s.setAF (s.i, ldAIrFlags s.i s.f s.iff2)) s
  refine ⟨t, ht, ?_, ?_⟩
  · rw [ha, State.setAF_a, State.refreshIf_i]
  · rw [hi, State.setAF, State.i_set_ne _ (by decide), State.refreshIf_i]

/-- I is written by `LD I,A` alone. -/
theorem exec_keeps_i {i : Instr} {s t : State} (hi : i ≠ .ldIA) (h : exec i s = .next t) : t.i = s.i := by
  by_cases hai : i = .ldAI
  · subst hai
    obtain ⟨u, hu, -, hui⟩ := ldAI_reads_i s
    obtain rfl := Host.Outcome.next.inj (hu.symm.trans h)
    exact hui
  · have hblind : Blind (.vector s.i) (exec i) := exec_blind _ i (by simp [Reserved.users, hi, hai])
    have hkeep : t.setHi .ir s.i = t := hblind.write_eq_self (State.setHi_ir_i s) h
    rw [← hkeep, State.i_setHi_ir]

/-! ## I and the interrupt check -/

theorem push16_i (s : State) (v : Word) : (s.push16 v).i = s.i := by
  simp [State.push16, State.writeWord, State.i]

theorem accept_i (s : State) : s.accept.i = s.i :=
  (State.refresh_i _ 1).trans ((State.i_set_ne _ (by decide) _).trans (push16_i _ _))

theorem interruptCheck_i (s : State) : s.interruptCheck.i = s.i := by
  obtain ⟨hc, -⟩ | ⟨hc, -⟩ | ⟨-, -, -, -, ⟨-, hc⟩ | ⟨-, hc⟩⟩ := interruptCheck_cases s
  · rw [hc]; rfl
  · rw [hc]; rfl
  · rw [hc]; rfl
  · rw [hc, accept_i]; rfl

theorem push16_im (s : State) (v : Word) : (s.push16 v).im = s.im := by
  simp [State.push16, State.writeWord]

/-- An acceptance up to its push: the flip-flops cleared, the request consumed, the PC pushed (R1406). -/
def State.entered (s : State) : State :=
  State.push16 { s with iff1 := false, iff2 := false, intPending := false, halted := false } (s.get .pc)

theorem accept_eq_entered (s : State) :
    s.accept = ((s.entered.set .pc s.entered.vector).tick (acceptCost s.entered.im)).refresh 1 := rfl

theorem entered_im (s : State) : s.entered.im = s.im := push16_im _ _

theorem entered_i (s : State) : s.entered.i = s.i := push16_i _ _

theorem entered_write (u : Reserved) (s : State) : (u.write s).entered = u.write s.entered := by
  rw [State.entered, u.write_get s (by decide), State.entered, ← u.push16_write]
  cases u <;> rfl

theorem vector_of_im {s : State} (hm : s.im = 0 ∨ s.im = 1) : s.vector = 0x0038#16 := if_pos hm

/-- The handler of a mode-2 acceptance, read from the memory that the acceptance leaves (R1406). -/
theorem accept_pc_mode_two (s : State) (hm : s.im = 2#2) :
    s.accept.get .pc = s.accept.readWord (w16 s.i 0xFF#8) := by
  have hmem : s.accept.readWord (w16 s.i 0xFF#8) = s.entered.readWord (w16 s.i 0xFF#8) := by
    simp [accept_eq_entered, State.readWord, State.refresh]
  rw [hmem, accept_eq_entered, State.refresh_get _ _ (by decide), State.tick_get, State.get_set_self, State.vector,
    entered_im, if_neg (by simp [hm]), entered_i]

/-- Outside mode 2 an acceptance reads nothing reserved: the handler's address is fixed. -/
theorem accept_write (u : Reserved) (s : State) (hm : s.im = 0 ∨ s.im = 1) :
    (u.write s).accept = u.write s.accept := by
  have hv : (u.write s.entered).vector = s.entered.vector := by
    rw [vector_of_im (by rwa [u.write_im, entered_im]), vector_of_im (by rwa [entered_im])]
  rw [accept_eq_entered, accept_eq_entered, entered_write, hv]
  simp

theorem interruptCheck_write (u : Reserved) (s : State) (hm : s.im ≠ 2#2) :
    (u.write s).interruptCheck = u.write s.interruptCheck := by
  have hmode : ∀ m : BitVec 2, m ≠ 2#2 → m ≠ 3#2 → m = 0#2 ∨ m = 1#2 := by decide
  simp only [State.interruptCheck, Reserved.write_intPending, Reserved.write_intDeadline, Reserved.write_clock,
    Reserved.write_iff1, Reserved.write_intInhibit, Reserved.write_im]
  split_ifs with h1 h2 h3 h4 h5
  case neg =>
    refine Eq.trans ?_ (accept_write u _ (hmode s.im hm h5))
    cases u <;> rfl
  all_goals cases u <;> rfl

/-- A request pending before its deadline, enabled and not inhibited, with a legal mode, is accepted (R1403). -/
theorem interruptCheck_of_due {s : State} (hp : s.intPending = true) (hd : s.clock < s.intDeadline)
    (h1 : s.iff1 = true) (hi : s.intInhibit = false) (hm : s.im ≠ 3#2) :
    s.interruptCheck = State.accept { s with intInhibit := false } := by
  simp [State.interruptCheck, hp, Nat.not_le.mpr hd, h1, hi, hm]

/-- Settles O14: `LD I,A` and `LD A,I` as they run, every other instruction blind to I, and of the interrupt check all
but an acceptance in mode 2. -/
theorem interruptVectorRegister : Obligations.InterruptVectorRegister := by
  refine ⟨ldIA_writes_i, fun s => ?_, fun i s t hi h => ⟨exec_keeps_i hi h, fun hai v => ?_⟩, interruptCheck_i,
    fun s hm v => ?_, fun s hp hd h1 hi hm => ?_⟩
  · obtain ⟨t, ht, ha, -⟩ := ldAI_reads_i s
    exact ⟨t, ht, ha⟩
  · exact exec_blind (.vector v) i (by simp [Reserved.users, hi, hai]) s t h
  · rw [← Reserved.vector_write, interruptCheck_write _ s hm, Reserved.vector_write]
  · rw [interruptCheck_of_due hp hd h1 hi (by simp [hm])]
    exact accept_pc_mode_two _ hm

end Sys2Proof.Machine
end

section
/-! PROOFS of 45_alu16.md: `INC` and `DEC` of a pair or an index register (R905 to R908) change no flag (R419). The
four are one update of one register, which is not AF. -/

namespace Sys2Proof.Machine

theorem pairReg_not_pc_ir_af (p : Pair) : pairReg p ∉ [Reg16.pc, .ir, .af] := by cases p <;> decide

theorem idxReg_not_pc_ir_af (x : Idx) : idxReg x ∉ [Reg16.pc, .ir, .af] := by cases x <;> decide

/-- An instruction whose effect replaces one register, not the PC, IR or AF, by a function of its old value. -/
theorem runsQuiet_of_update {i : Instr} {s : State} {len cost k : Nat} {g : Reg16} (op : Word → Word)
    (hg : g ∉ [Reg16.pc, .ir, .af]) (he : exec i s = straight len cost k (fun v => v.set g (op (v.get g))) s) :
    RunsQuiet i s len cost k [g] fun t => t.get g = op (s.get g) ∧ t.f = s.f := by
  simp only [List.mem_cons, List.not_mem_nil, or_false, not_or] at hg
  obtain ⟨hpc, hir, haf⟩ := hg
  refine runsQuiet_of_registers he (by simpa using Ne.symm hpc) (by simpa using Ne.symm hir) (fun _ => ⟨_, rfl⟩)
    (fun w q hq => ?keep) (fun w p n w2 o => ⟨?value, ?flags⟩)
  case keep => exact State.get_set_ne _ (Ne.symm (by simpa using hq)) _
  case value => simp [State.get_set_ne _ (Ne.symm hpc), State.get_set_ne _ (Ne.symm hir)]
  case flags => simp [State.set_f_ne _ haf]

/-- Settles O48: each of the four is an update of a register that is not AF. -/
theorem incrementAndDecrement16 : Obligations.IncrementAndDecrement16 := by
  intro s
  refine ⟨fun p => ?incPair, fun p => ?decPair, fun x => ?incIdx, fun x => ?decIdx⟩
  case incPair => exact runsQuiet_of_update (· + 1) (pairReg_not_pc_ir_af p) (exec_incPair p s)
  case decPair => exact runsQuiet_of_update (· - 1) (pairReg_not_pc_ir_af p) (exec_decPair p s)
  case incIdx => exact runsQuiet_of_update (· + 1) (idxReg_not_pc_ir_af x) (exec_incIdx x s)
  case decIdx => exact runsQuiet_of_update (· - 1) (idxReg_not_pc_ir_af x) (exec_decIdx x s)

end Sys2Proof.Machine
end

section
/-! PROOFS, the frame of every operation. `Keeps but s t`: of the registers only those in `but` may differ, memory is
still canonical, and no control state changed. Each operation that an effect is made of is given its list once; the
statements about every instruction and those of the families both read their frame off it. -/

namespace Sys2Proof.Machine

/-- From `s` to `t` no register but those in `but`, no control state and not the clock changed, and memory is canonical
if it was. Nothing is said of the bytes of memory, of the ports and of the report. -/
structure Keeps (but : List Reg16) (s t : State) : Prop where
  regs : SameRegs s t but
  control : SameControl s t
  clock : t.clock = s.clock
  canonical : Memory.wf s.mem = true → Memory.wf t.mem = true

/-- The registers that are neither the PC nor IR. -/
def dataRegs : List Reg16 := [.af, .bc, .de, .hl, .shAf, .shBc, .shDe, .shHl, .ix, .iy, .sp]

@[simp] theorem mem_dataRegs (g : Reg16) : g ∈ dataRegs ↔ g ≠ .pc ∧ g ≠ .ir := by cases g <;> decide

@[simp] theorem reg8Home_ne_pc (r : Reg8) : reg8Home r ≠ .pc := by cases r <;> decide
@[simp] theorem reg8Home_ne_ir (r : Reg8) : reg8Home r ≠ .ir := by cases r <;> decide
@[simp] theorem reg8Home_mem_main (r : Reg8) : reg8Home r ∈ [Reg16.af, .bc, .de, .hl] := by cases r <;> decide
@[simp] theorem pairReg_ne_pc (p : Pair) : pairReg p ≠ .pc := by cases p <;> decide
@[simp] theorem pairReg_ne_ir (p : Pair) : pairReg p ≠ .ir := by cases p <;> decide
@[simp] theorem pairAfReg_ne_pc (q : PairAf) : pairAfReg q ≠ .pc := by cases q <;> decide
@[simp] theorem pairAfReg_ne_ir (q : PairAf) : pairAfReg q ≠ .ir := by cases q <;> decide
@[simp] theorem idxReg_ne_pc (x : Idx) : idxReg x ≠ .pc := by cases x <;> decide
@[simp] theorem idxReg_ne_ir (x : Idx) : idxReg x ≠ .ir := by cases x <;> decide

namespace Keeps

variable {but : List Reg16} {s t u : State}

protected theorem refl (but : List Reg16) (s : State) : Keeps but s s :=
  ⟨fun _ _ => rfl, by simp [SameControl], rfl, id⟩

theorem get (h : Keeps but s t) {g : Reg16} (hg : g ∉ but) : t.get g = s.get g := h.regs g hg

theorem params (h : Keeps but s t) : t.params = s.params := by
  obtain ⟨-, -, -, -, -, -, -, -, hp, -⟩ := h.control
  exact hp

/-! ## One more operation -/

theorem set (h : Keeps but s t) {r : Reg16} (hr : r ∈ but) (v : Word) : Keeps but s (t.set r v) where
  regs g hg := (State.get_set_ne t (by rintro rfl; exact hg hr) v).trans (h.regs g hg)
  control := h.control
  clock := h.clock
  canonical := h.canonical

theorem writeByte (h : Keeps but s t) (a : Word) (v : Byte) : Keeps but s (t.writeByte a v) where
  regs g hg := (State.writeByte_get t a v g).trans (h.regs g hg)
  control := by simpa [SameControl] using h.control
  clock := by simpa using h.clock
  canonical hs := State.wf_writeByte t a v (h.canonical hs)

theorem portRead (h : Keeps but s t) (p u : Byte) : Keeps but s (t.portRead p u) :=
  ⟨h.regs, h.control, h.clock, h.canonical⟩

theorem portWrite (h : Keeps but s t) (p u v : Byte) : Keeps but s (t.portWrite p u v) :=
  ⟨h.regs, h.control, h.clock, h.canonical⟩

theorem writeWord (h : Keeps but s t) (a v : Word) : Keeps but s (t.writeWord a v) :=
  (h.writeByte _ _).writeByte _ _

theorem setHalf (h : Keeps but s t) {r : Reg16} (hr : r ∈ but) (k : Half) (v : Byte) :
    Keeps but s (t.setHalf r k v) := by
  cases k <;> exact h.set hr _

theorem setReg8 (h : Keeps but s t) {r : Reg8} (hr : reg8Home r ∈ but) (v : Byte) : Keeps but s (t.setReg8 r v) :=
  h.setHalf hr _ v

theorem setXh (h : Keeps but s t) {x : Idx} (hx : idxReg x ∈ but) (k : Half) (v : Byte) :
    Keeps but s (t.setXh x k v) := h.setHalf hx k v

theorem setF (h : Keeps but s t) (haf : .af ∈ but) (v : Byte) : Keeps but s (t.setF v) := h.set haf _

theorem setAF (h : Keeps but s t) (haf : .af ∈ but) (v : Byte × Byte) : Keeps but s (t.setAF v) := h.set haf _

theorem push16 (h : Keeps but s t) (hsp : .sp ∈ but) (v : Word) : Keeps but s (t.push16 v) :=
  (h.set hsp _).writeWord _ _

theorem exchange (h : Keeps but s t) {p q : Reg16} (hp : p ∈ but) (hq : q ∈ but) : Keeps but s (t.exchange p q) :=
  (h.set hp _).set hq _

end Keeps

/-! ## The operations of the effects -/

section
variable {but : List Reg16} (s : State)

@[simp] theorem keeps_self : Keeps but s s := .refl but s
@[simp] theorem keeps_set {r : Reg16} (hr : r ∈ but) (v : Word) : Keeps but s (s.set r v) := (Keeps.refl but s).set hr v
@[simp] theorem keeps_setReg8 {r : Reg8} (hr : reg8Home r ∈ but) (v : Byte) : Keeps but s (s.setReg8 r v) :=
  (Keeps.refl but s).setReg8 hr v
@[simp] theorem keeps_setXh {x : Idx} (hx : idxReg x ∈ but) (k : Half) (v : Byte) : Keeps but s (s.setXh x k v) :=
  (Keeps.refl but s).setXh hx k v
@[simp] theorem keeps_setA (haf : .af ∈ but) (v : Byte) : Keeps but s (s.setA v) := (Keeps.refl but s).set haf _
@[simp] theorem keeps_setF (haf : .af ∈ but) (v : Byte) : Keeps but s (s.setF v) := (Keeps.refl but s).setF haf v
@[simp] theorem keeps_setAF (haf : .af ∈ but) (v : Byte × Byte) : Keeps but s (s.setAF v) :=
  (Keeps.refl but s).setAF haf v
@[simp] theorem keeps_writeByte (a : Word) (v : Byte) : Keeps but s (s.writeByte a v) :=
  (Keeps.refl but s).writeByte a v
@[simp] theorem keeps_writeWord (a v : Word) : Keeps but s (s.writeWord a v) := (Keeps.refl but s).writeWord a v
@[simp] theorem keeps_push16 (hsp : .sp ∈ but) (v : Word) : Keeps but s (s.push16 v) :=
  (Keeps.refl but s).push16 hsp v
@[simp] theorem keeps_popDone_set (hsp : .sp ∈ but) {r : Reg16} (hr : r ∈ but) (v : Word) :
    Keeps but s (s.popDone.set r v) := ((Keeps.refl but s).set hsp _).set hr v
@[simp] theorem keeps_portWrite (p u v : Byte) : Keeps but s (s.portWrite p u v) :=
  (Keeps.refl but s).portWrite p u v
@[simp] theorem keeps_portRead_setA (haf : .af ∈ but) (p u v : Byte) : Keeps but s ((s.portRead p u).setA v) :=
  ((Keeps.refl but s).portRead p u).set haf _
@[simp] theorem keeps_portRead_setF (haf : .af ∈ but) (p u v : Byte) : Keeps but s ((s.portRead p u).setF v) :=
  ((Keeps.refl but s).portRead p u).setF haf v
@[simp] theorem keeps_portRead_putReg8 (haf : .af ∈ but) {r : Reg8} (hr : reg8Home r ∈ but) (p u : Byte)
    (v : Byte × Byte) : Keeps but s ((s.portRead p u).putReg8 r v) :=
  (((Keeps.refl but s).portRead p u).setReg8 hr _).setF haf _
@[simp] theorem keeps_accumulate (haf : .af ∈ but) (op : AluOp) (v : Byte) : Keeps but s (s.accumulate op v) :=
  keeps_setAF s haf _
@[simp] theorem keeps_putReg8 (haf : .af ∈ but) {r : Reg8} (hr : reg8Home r ∈ but) (v : Byte × Byte) :
    Keeps but s (s.putReg8 r v) := (keeps_setReg8 s hr _).setF haf _
@[simp] theorem keeps_putXh (haf : .af ∈ but) {x : Idx} (hx : idxReg x ∈ but) (k : Half) (v : Byte × Byte) :
    Keeps but s (s.putXh x k v) := (keeps_setXh s hx k _).setF haf _
@[simp] theorem keeps_putWord (haf : .af ∈ but) {r : Reg16} (hr : r ∈ but) (v : Word × Byte) :
    Keeps but s (s.putWord r v) := (keeps_set s hr _).setF haf _
@[simp] theorem keeps_putByte (haf : .af ∈ but) (a : Word) (v : Byte × Byte) : Keeps but s (s.putByte a v) :=
  (keeps_writeByte s a _).setF haf _
@[simp] theorem keeps_writeCopy {r : Reg8} (hr : reg8Home r ∈ but) (a : Word) (v : Byte) :
    Keeps but s (s.writeCopy a r v) := (keeps_writeByte s a v).setReg8 hr v
@[simp] theorem keeps_rotMem (haf : .af ∈ but) (op : RotOp) (a : Word) : Keeps but s (s.rotMem op a) :=
  keeps_putByte s haf a _
@[simp] theorem keeps_rotMemCopy (haf : .af ∈ but) {r : Reg8} (hr : reg8Home r ∈ but) (op : RotOp) (a : Word) :
    Keeps but s (s.rotMemCopy op a r) := (keeps_writeCopy s hr a _).setF haf _
@[simp] theorem keeps_digits (haf : .af ∈ but) (m v : Byte) : Keeps but s (s.digits m v) :=
  (keeps_writeByte s _ m).setAF haf _
@[simp] theorem keeps_exchange {p q : Reg16} (hp : p ∈ but) (hq : q ∈ but) : Keeps but s (s.exchange p q) :=
  (Keeps.refl but s).exchange hp hq
@[simp] theorem keeps_exchangeTop {p : Reg16} (hp : p ∈ but) : Keeps but s (s.exchangeTop p) :=
  (keeps_writeWord s _ _).set hp _
@[simp] theorem keeps_exx {p q p2 q2 p3 q3 : Reg16} (hp : p ∈ but) (hq : q ∈ but) (hp2 : p2 ∈ but) (hq2 : q2 ∈ but)
    (hp3 : p3 ∈ but) (hq3 : q3 ∈ but) : Keeps but s (((s.exchange p q).exchange p2 q2).exchange p3 q3) :=
  ((keeps_exchange s hp hq).exchange hp2 hq2).exchange hp3 hq3
@[simp] theorem keeps_callTo (hpc : .pc ∈ but) (hsp : .sp ∈ but) (len : Nat) (w : Word) :
    Keeps but s (s.callTo len w) := (keeps_push16 s hsp _).set hpc w
@[simp] theorem keeps_returnTo (hpc : .pc ∈ but) (hsp : .sp ∈ but) : Keeps but s s.returnTo :=
  keeps_popDone_set s hsp hpc _

variable (haf : .af ∈ but) (hbc : .bc ∈ but) (hhl : .hl ∈ but) (d : Dir)
include haf hbc hhl

@[simp] theorem keeps_ldUnit (hde : .de ∈ but) : Keeps but s (s.ldUnit d) :=
  ((((keeps_writeByte s _ _).set hhl _).set hde _).set hbc _).setF haf _
@[simp] theorem keeps_cpUnit : Keeps but s (s.cpUnit d) := ((keeps_set s hhl _).set hbc _).setF haf _
@[simp] theorem keeps_inUnit : Keeps but s (s.inUnit d) :=
  (((((Keeps.refl but s).portRead _ _).writeByte _ _).set hhl _).setReg8 (r := .b) hbc _).setF haf _
@[simp] theorem keeps_outUnit : Keeps but s (s.outUnit d) :=
  ((((keeps_setReg8 s (r := .b) hbc _).portWrite _ _ _).set hhl _).setF haf _)

end

end Sys2Proof.Machine
end

section
/-! PROOFS, what an instruction can do (40_step_and_flags.md R400, R401). Every instruction is a descriptor and an effect
run by the sequencer; `Meaning` says of both all that the statements about every instruction need, and is proved once,
constructor by constructor. -/

namespace Sys2Proof.Machine

/-- What `i` may have done to memory and to the control state, on the way from `s` to `t`; the sequencer around an
effect changes none of it. -/
structure Lasting (i : Instr) (s t : State) : Prop where
  params : t.params = s.params
  fatal : t.fatal = s.fatal
  canonical : Memory.wf s.mem = true → Memory.wf t.mem = true
  halted : t.halted = true ↔ s.halted = true ∨ i = .halt
  iff1 : (∀ z, i ≠ .retn z) ∧ i ≠ .reti ∧ i ≠ .di ∧ i ≠ .ei → t.iff1 = s.iff1
  iff2 : i ≠ .di ∧ i ≠ .ei → t.iff2 = s.iff2
  im : (∀ y z, i ≠ .im0 y z) ∧ (∀ z, i ≠ .im1 z) ∧ (∀ z, i ≠ .im2 z) → t.im = s.im
  legal : s.im ≠ 3#2 → t.im ≠ 3#2
  inhibit : i ≠ .ei → t.intInhibit = s.intInhibit

/-- What the effect of `i` may have done: that, and neither the clock nor, but for two loads, IR is touched. -/
structure Effected (i : Instr) (s v : State) : Prop extends Lasting i s v where
  clock : v.clock = s.clock
  ir : i ≠ .ldIA → i ≠ .ldRA → v.get .ir = s.get .ir
  r : i ≠ .ldRA → v.r = s.r

theorem Keeps.effected {i : Instr} {s v : State} (h : Keeps (.pc :: dataRegs) s v) (hi : i ≠ .halt) :
    Effected i s v := by
  obtain ⟨h1, h2, him, -, -, hinh, hhalt, hfatal, hparams, -, -⟩ := h.control
  have hir : v.get .ir = s.get .ir := h.get (by simp)
  exact ⟨⟨hparams, hfatal, h.canonical, by simp [hhalt, hi], fun _ => h1, fun _ => h2, fun _ => him,
    by rw [him]; exact id, fun _ => hinh⟩, h.clock, fun _ _ => hir, fun _ => congrArg lo hir⟩

/-- How `i` with the descriptor `d` may complete: Next with the PC untouched, else only where D34 allows it, and slowly
only with a Tslow to charge. -/
def Completes (i : Instr) (d : Desc) (c : Completion) (s v : State) : Prop :=
  c = .next ∧ v.get .pc = s.get .pc ∨ MayRepeat i ∧ (c = .again ∨ c = .againSlow ∧ ∃ n, d.tSlow = some n)

/-- The meaning `m` of `i` is the descriptor `d` and the effect `eff`: the strict `DAA` outside its table raises its fault
and changes nothing; every other effect is done. -/
structure Meaning (i : Instr) (m : State → Result) (d : Desc) (eff : State → Effect) : Prop where
  run : m = sequencer d eff
  length : d.length = i.length
  charge : ∀ c, 4 ≤ d.charge c ∧ d.charge c ≤ 23
  effect : ∀ s, eff s = .fatal .daaOutOfTable s ∧ strictDaaFails i s ∨
    ¬ strictDaaFails i s ∧ ∃ c v, eff s = .done c v ∧ Effected i s v ∧ Completes i d c s v

section
variable {i : Instr} {len t k : Nat} {f : State → State}

theorem meaning_of_straight (hlen : len = i.length) (ht : 4 ≤ t ∧ t ≤ 23) (hdaa : i ≠ .daa)
    (hf : ∀ s, Effected i s (f s) ∧ (f s).get .pc = s.get .pc) : ∃ d eff, Meaning i (straight len t k f) d eff :=
  ⟨⟨len, t, none, k⟩, _, rfl, hlen, fun c => by cases c <;> exact ht, fun s =>
    .inr ⟨fun h => hdaa h.1, .next, f s, rfl, (hf s).1, .inl ⟨rfl, (hf s).2⟩⟩⟩

theorem meaning_of_keeps (hlen : len = i.length) (ht : 4 ≤ t ∧ t ≤ 23) (hi : i ≠ .daa ∧ i ≠ .halt)
    (hf : ∀ s, Keeps dataRegs s (f s)) : ∃ d eff, Meaning i (straight len t k f) d eff :=
  meaning_of_straight hlen ht hi.1 fun s =>
    have hall : Keeps (.pc :: dataRegs) s (f s) :=
      ⟨fun g hg => (hf s).regs g fun hd => hg (.tail _ hd), (hf s).control, (hf s).clock, (hf s).canonical⟩
    ⟨hall.effected hi.2, (hf s).get (by simp)⟩

theorem meaning_of_jumping (hlen : len = i.length) (ht : 4 ≤ t ∧ t ≤ 23) (hdaa : i ≠ .daa) (hrep : MayRepeat i)
    (hf : ∀ s, Effected i s (f s)) : ∃ d eff, Meaning i (jumping len t k f) d eff :=
  ⟨⟨len, t, none, k⟩, _, rfl, hlen, fun c => by cases c <;> exact ht, fun s =>
    .inr ⟨fun h => hdaa h.1, .again, f s, rfl, hf s, .inr ⟨hrep, .inl rfl⟩⟩⟩

/-- An instruction that completes `Next` with the PC untouched or `Repeat` or `RepeatSlow`, as its effect finds. -/
theorem meaning_of_repeating {slow : Option Nat} {eff : State → Effect} (hlen : len = i.length) (ht : 4 ≤ t ∧ t ≤ 23)
    (hslow : ∀ n ∈ slow, 4 ≤ n ∧ n ≤ 23) (hi : i ≠ .daa ∧ i ≠ .halt) (hrep : MayRepeat i)
    (heff : ∀ s, ∃ c v, eff s = .done c v ∧ Keeps (.pc :: dataRegs) s v ∧
      (c = .next ∧ v.get .pc = s.get .pc ∨ c = .again ∨ c = .againSlow ∧ ∃ n, slow = some n)) :
    ∃ d eff', Meaning i (sequencer ⟨len, t, slow, k⟩ eff) d eff' := by
  refine ⟨_, _, rfl, hlen, ?charge, fun s => .inr ⟨fun h => hi.1 h.1, ?effect⟩⟩
  case charge =>
    have hgetD : 4 ≤ slow.getD t ∧ slow.getD t ≤ 23 := by
      cases slow with
      | none => exact ht
      | some n => exact hslow n rfl
    intro c
    cases c with
    | next | again => exact ht
    | nextSlow | againSlow => exact hgetD
  case effect =>
    obtain ⟨c, v, he, hk, hc⟩ := heff s
    exact ⟨c, v, he, hk.effected hi.2, hc.imp id fun h => ⟨hrep, h⟩⟩

end

/-- The effect of `DAA`: the strict one faults outside its table, else it is one write of AF (R840, R1410). -/
def daaEffect (s : State) : Effect :=
  if s.params.daaMode = .strict ∧ daaInTable s.a s.f = false then .fatal .daaOutOfTable s
  else .done .next (s.setAF (daa8 s.a s.f))

theorem meaning_daa : ∃ d eff, Meaning .daa execDaa d eff := by
  refine ⟨⟨1, 4, none, 1⟩, daaEffect, rfl, rfl, fun c => by cases c <;> decide, fun s => ?_⟩
  by_cases h : s.params.daaMode = .strict ∧ daaInTable s.a s.f = false
  · exact .inl ⟨if_pos h, rfl, h⟩
  · exact .inr ⟨fun hd => h hd.2, .next, _, if_neg h, (keeps_setAF s (by simp) _).effected (by simp), .inl ⟨rfl, rfl⟩⟩

/-- A draw is no piece of the state that `Effected` speaks of (R1021). -/
theorem effected_bitMemHl (b : BitVec 3) (s : State) (v : Byte) : Effected (.bitMemHl b) s (s.drawDone.setF v) :=
  have h : Keeps (.pc :: dataRegs) s.drawDone (s.drawDone.setF v) := keeps_setF _ (by simp) v
  { h.effected (i := .bitMemHl b) (by simp) with }

/-- `RETN` and `RETI` are a return that also writes IFF1 (R1112, R1113). -/
theorem effected_returnFromInterrupt {i : Instr} (hi : (∃ z, i = .retn z) ∨ i = .reti) (s : State) :
    Effected i s s.returnFromInterrupt := by
  have h : Keeps (.pc :: dataRegs) s s.returnTo := keeps_returnTo s (by simp) (by simp)
  have hh : i ≠ .halt := by rintro rfl; simp at hi
  have hiff1 : ¬ ((∀ z, i ≠ .retn z) ∧ i ≠ .reti ∧ i ≠ .di ∧ i ≠ .ei) := by
    rintro ⟨hn, hr, -⟩
    exact hi.elim (fun ⟨z, hz⟩ => hn z hz) hr
  exact { h.effected hh with iff1 := fun h => absurd h hiff1 }

/-- Every instruction has a meaning. -/
theorem exec_meaning (i : Instr) : ∃ d eff, Meaning i (exec i) d eff := by
  unfold exec
  cases i with
  | daa => exact meaning_daa
  | bitMemHl b => exact meaning_of_straight rfl (by decide) (by simp) fun s => ⟨effected_bitMemHl b s _, rfl⟩
  | halt | di | ei | im0 | im1 | im2 =>
    refine meaning_of_straight rfl (by decide) (by simp) fun s => ⟨⟨?_, ?_, ?_, ?_⟩, rfl⟩
    · constructor <;> simp
    all_goals simp [State.r, State.get]
  | ldIA | ldRA =>
    refine meaning_of_straight rfl (by decide) (by simp) fun s => ⟨⟨?_, ?_, ?_, ?_⟩, rfl⟩
    · constructor <;> simp
    all_goals simp [State.r, State.setHi]
  | jp | jr | jpHl | jpIdx | call | ret | rst =>
    exact meaning_of_jumping rfl (by decide) (by simp) (by simp [MayRepeat]) fun s => Keeps.effected (by simp) (by simp)
  | retn | reti =>
    exact meaning_of_jumping rfl (by decide) (by simp) (by simp [MayRepeat]) (effected_returnFromInterrupt (by simp))
  | jpCond | jrCond | callCond | retCond =>
    refine meaning_of_repeating rfl (by decide) (by simp) (by simp) (by simp [MayRepeat]) fun s => ?_
    split
    · exact ⟨_, _, rfl, by simp, by simp⟩
    · exact ⟨_, _, rfl, by simp, by simp⟩
  | djnz e =>
    refine meaning_of_repeating rfl (by decide) (by simp) (by simp) (by simp [MayRepeat]) fun s => ?_
    have hb : Keeps (.pc :: dataRegs) s (s.setReg8 .b (s.reg8 .b - 1)) := keeps_setReg8 s (by simp) _
    dsimp only
    split
    · exact ⟨_, _, rfl, hb.set (by simp) _, by simp⟩
    · exact ⟨_, _, rfl, hb, by simp⟩
  | ldir | lddr | cpir | cpdr | inir | indr | otir | otdr =>
    refine meaning_of_repeating rfl (by decide) (by simp) (by simp) (by simp [MayRepeat]) fun s => ?_
    refine ⟨_, _, rfl, by simp, ?_⟩
    split
    · simp
    · exact .inl ⟨rfl, Keeps.get (but := dataRegs) (by simp) (by simp)⟩
  | _ => exact meaning_of_keeps rfl (by decide) (by simp) fun s => by simp

end Sys2Proof.Machine
end

section
/-! PROOFS, what `exec` answers: `exec_cases` puts the sequencer (40_step_and_flags.md R401, R402) around a meaning. -/

namespace Sys2Proof.Machine

theorem refreshIf_getLsbD_seven (s : State) (o : RefreshOrder) (k : Nat) :
    (s.refreshIf o k).r.getLsbD 7 = s.r.getLsbD 7 := by
  unfold State.refreshIf
  split
  · obtain ⟨-, hbit, -⟩ := State.refreshed_refresh s k
    exact hbit
  · rfl

/-- Whichever side of an effect R is refreshed on, it is refreshed once, where the effect leaves IR alone (R401, D15). -/
theorem refreshed_around {s v : State} {k : Nat} (hp : v.params = s.params)
    (hir : v.get .ir = (s.refreshIf .beforeExecute k).get .ir) : Refreshed s (v.refreshIf .afterExecute k) k := by
  cases ho : s.params.refreshOrder with
  | afterExecute =>
    have hv : v.get .ir = s.get .ir := by simpa [State.refreshIf, ho] using hir
    have h := State.refreshed_refresh v k
    simpa only [Refreshed, State.i, State.r, hv, State.refreshIf, hp, ho, if_true] using h
  | beforeExecute =>
    have hv : v.get .ir = (s.refresh k).get .ir := by simpa [State.refreshIf, ho] using hir
    have hafter : v.refreshIf .afterExecute k = v := by simp [State.refreshIf, hp, ho]
    have h := State.refreshed_refresh s k
    rw [hafter]
    simpa only [Refreshed, State.i, State.r, hv] using h

/-- The strict `DAA` looks at nothing that a refresh changes. -/
theorem strictDaaFails_refreshIf (i : Instr) (s : State) (o : RefreshOrder) (k : Nat) :
    strictDaaFails i (s.refreshIf o k) ↔ strictDaaFails i s := by
  obtain ⟨w, hw⟩ := State.refreshIf_eq_set s o k
  simp [hw, strictDaaFails]

/-- `i`, run from `s`, completes with `c` in `t`. -/
structure Ran (i : Instr) (d : Desc) (c : Completion) (s t : State) : Prop extends Lasting i s t where
  report : t.report = some ⟨d, c⟩
  length : d.length = i.length
  clock : t.clock = s.clock + d.charge c
  charge : 4 ≤ d.charge c ∧ d.charge c ≤ 23
  bitSeven : i ≠ .ldRA → t.r.getLsbD 7 = s.r.getLsbD 7
  refreshed : i ≠ .ldIA → i ≠ .ldRA → Refreshed s t d.rDelta
  completes : c = .next ∧ t.get .pc = s.get .pc + BitVec.ofNat 16 d.length ∨
    MayRepeat i ∧ (c = .again ∨ c = .againSlow ∧ ∃ n, d.tSlow = some n)

/-- The sequencer around an effect that is done. -/
theorem Meaning.ran {i : Instr} {d : Desc} {eff : State → Effect} (hm : Meaning i (exec i) d eff) {c : Completion}
    {s v : State} (hv : Effected i (s.refreshIf .beforeExecute d.rDelta) v)
    (hc : Completes i d c (s.refreshIf .beforeExecute d.rDelta) v) :
    Ran i d c s ((((v.advance d c).tick (d.charge c)).refreshIf .afterExecute d.rDelta).reporting (some ⟨d, c⟩)) := by
  obtain ⟨w, hw⟩ := State.refreshIf_eq_set s .beforeExecute d.rDelta
  obtain ⟨w2, hw2⟩ := State.refreshIf_eq_set ((v.advance d c).tick (d.charge c)) .afterExecute d.rDelta
  have hadv := State.advance_eq_set v d c
  have hirv : ((v.advance d c).tick (d.charge c)).get .ir = v.get .ir := by rw [hadv]; simp
  have hparams : ((v.advance d c).tick (d.charge c)).params = s.params := by
    have := hv.params
    rw [hw] at this
    rw [hadv]
    simpa using this
  refine ⟨?lasting, rfl, hm.length, ?clock, hm.charge c, fun hra => ?bitSeven, fun hia hra => ?refreshed, ?completes⟩
  case lasting =>
    have h := hv.toLasting
    rw [hw] at h
    rw [hw2, hadv]
    exact { h with }
  case clock =>
    have h := hv.clock
    rw [hw] at h
    rw [hw2, hadv]
    simpa using h
  case bitSeven =>
    have hr : ((v.advance d c).tick (d.charge c)).r = v.r := congrArg lo hirv
    rw [← refreshIf_getLsbD_seven s .beforeExecute d.rDelta, ← hv.r hra, ← hr]
    exact refreshIf_getLsbD_seven _ _ _
  case refreshed => exact refreshed_around hparams (hirv.trans (hv.ir hia hra))
  case completes =>
    refine hc.imp (fun ⟨hnext, hpc⟩ => ⟨hnext, ?_⟩) id
    rw [hw] at hpc
    rw [hw2]
    subst hnext
    simpa [State.advance] using hpc

/-- The state in which the strict `DAA` stops: nothing but R, where it is refreshed before, has changed (R1410). -/
def State.daaStopped (s : State) : State :=
  State.reporting { s.refreshIf .beforeExecute 1 with fatal := some .daaOutOfTable } none

theorem exec_daa_of_fails {s : State} (h : strictDaaFails .daa s) : exec .daa s = .next s.daaStopped := by
  have hu := (strictDaaFails_refreshIf .daa s .beforeExecute 1).mpr h
  show sequencer ⟨1, 4, none, 1⟩ daaEffect s = _
  unfold sequencer daaEffect
  rw [if_pos hu.2]
  rfl

/-- Everything an instruction can do. -/
theorem exec_cases (i : Instr) (s : State) :
    ∃ t, exec i s = .next t ∧
      (strictDaaFails i s ∧ t = s.daaStopped ∨ ¬ strictDaaFails i s ∧ ∃ d c, Ran i d c s t) := by
  by_cases hs : strictDaaFails i s
  · have hi : i = .daa := hs.1
    subst hi
    exact ⟨_, exec_daa_of_fails hs, .inl ⟨hs, rfl⟩⟩
  · obtain ⟨d, eff, hm⟩ := exec_meaning i
    obtain ⟨-, hbad⟩ | ⟨-, c, v, hv, heff, hc⟩ := hm.effect (s.refreshIf .beforeExecute d.rDelta)
    · exact absurd ((strictDaaFails_refreshIf i s _ _).mp hbad) hs
    · refine ⟨_, ?_, .inr ⟨hs, d, c, hm.ran heff hc⟩⟩
      rw [hm.run, sequencer, hv]

/-- The same of a given answer. -/
theorem exec_inv {i : Instr} {s t : State} (h : exec i s = .next t) :
    strictDaaFails i s ∧ t = s.daaStopped ∨ ¬ strictDaaFails i s ∧ ∃ d c, Ran i d c s t := by
  obtain ⟨u, hu, hc⟩ := exec_cases i s
  obtain rfl := Host.Outcome.next.inj (hu.symm.trans h)
  exact hc

theorem daaStopped_eq (s : State) :
    ∃ w, s.daaStopped = State.reporting { s.set .ir w with fatal := some .daaOutOfTable } none := by
  obtain ⟨w, hw⟩ := State.refreshIf_eq_set s .beforeExecute 1
  exact ⟨w, by rw [State.daaStopped, hw]⟩

end Sys2Proof.Machine
end

section
/-! PROOFS about one step: its end (60_exceptions.md R1402 to R1410), and what every step keeps, each from
`exec_cases` for the instruction and `endStep_ended` for the end of the step. -/

namespace Sys2Proof.Machine

/-! ## An acceptance (R1406, R1407) -/

/-- A push stores its word below SP (20_memory.md R220). -/
theorem storedWord_push16 (s : State) (v : Word) : StoredWord s (s.push16 v) (s.get .sp - 2) v := fun b => by
  simp [State.push16, State.readByte_writeWord]

theorem push16_get_sp (s : State) (v : Word) : (s.push16 v).get .sp = s.get .sp - 2 := by
  simp [State.push16, State.writeWord]

theorem accept_readByte (s : State) (a : Word) : s.accept.readByte a = (s.push16 (s.get .pc)).readByte a := by
  rw [State.readByte, State.readByte, accept_mem]

theorem entered_r (s : State) : s.entered.r = s.r := by
  simp [State.entered, State.push16, State.writeWord, State.r]
  rfl

theorem refreshed_accept (s : State) : Refreshed s s.accept 1 := by
  have hi : ((s.entered.set .pc s.entered.vector).tick (acceptCost s.entered.im)).i = s.i := entered_i s
  have hr : ((s.entered.set .pc s.entered.vector).tick (acceptCost s.entered.im)).r = s.r := entered_r s
  have h := State.refreshed_refresh ((s.entered.set .pc s.entered.vector).tick (acceptCost s.entered.im)) 1
  rw [accept_eq_entered]
  simpa only [Refreshed, hi, hr] using h

/-- What an acceptance does, wherever it goes. -/
theorem accepted_accept (s : State) (hinh : s.intInhibit = false) :
    Accepted s s.accept (s.accept.get .pc) (acceptCost s.im) := by
  obtain ⟨h1, h2, him, hp, hd, hi, hh, hf, hpar, hq, hdr, hpi, hpl, hrep, hclock⟩ := accept_control s
  refine ⟨rfl, ?sp, fun b => ?stored, hclock, refreshed_accept s, fun g hg => ?regs, ⟨hpi, hpl⟩, h1, h2, hp, hh,
    hi.trans hinh, him, hd, hf, hpar, hq, hdr, hrep⟩
  case sp =>
    rw [accept_eq_entered, State.refresh_get _ _ (by decide)]
    exact push16_get_sp _ _
  case stored => rw [accept_readByte]; exact storedWord_push16 s _ b
  case regs =>
    simp only [List.mem_cons, List.not_mem_nil, or_false, not_or] at hg
    obtain ⟨hpc, hsp, hir⟩ := hg
    exact accept_get s hpc hsp hir

theorem acceptCost_le (im : BitVec 2) : acceptCost im ≤ 19 := by unfold acceptCost; split <;> decide

theorem canonical_accept (s : State) (h : Memory.wf s.mem = true) : Memory.wf s.accept.mem = true := by
  rw [accept_mem]; exact State.wf_push16 s _ h

/-! ## The end of a step -/

/-- Everything the end of a step can do to the clock, the parameters, the mode, memory, R and the fatal marker. -/
structure Ended (s t : State) : Prop where
  params : t.params = s.params
  im : t.im = s.im
  canonical : Memory.wf s.mem = true → Memory.wf t.mem = true
  clock : s.clock ≤ t.clock ∧ t.clock ≤ s.clock + 19
  bitSeven : t.r.getLsbD 7 = s.r.getLsbD 7
  fatal : t.fatal = s.fatal ∨ s.im = 3#2 ∧ t.fatal = some .badInterruptMode

theorem interruptCheck_ended (s : State) : Ended s s.interruptCheck := by
  obtain ⟨hc, -⟩ | ⟨hc, -⟩ | ⟨-, -, -, -, ⟨him, hc⟩ | ⟨-, hc⟩⟩ := interruptCheck_cases s
  · rw [hc]; exact ⟨rfl, rfl, id, by simp, rfl, .inl rfl⟩
  · rw [hc]; exact ⟨rfl, rfl, id, by simp, rfl, .inl rfl⟩
  · rw [hc]; exact ⟨rfl, rfl, id, by simp, rfl, .inr ⟨him, rfl⟩⟩
  · obtain ⟨-, -, -, hclock, ⟨-, hbit, -⟩, -, -, -, -, -, -, -, him, -, hf, hpar, -⟩ :=
      accepted_accept { s with intInhibit := false } rfl
    rw [hc]
    refine ⟨hpar, him, fun hm => canonical_accept { s with intInhibit := false } hm, ?_, hbit, .inl hf⟩
    rw [hclock]
    exact ⟨Nat.le_add_right _ _, Nat.add_le_add_left (acceptCost_le _) _⟩

theorem endStep_ended (s : State) : Ended s s.endStep := by
  obtain ⟨-, h⟩ | ⟨-, h⟩ := endStep_cases s
  · rw [h]; exact ⟨rfl, rfl, id, by simp, rfl, .inl rfl⟩
  · obtain hr | hr := recordRequest_cases { s with irqQueue := s.irqQueue.tail } (s.irqQueue.headD false)
    · rw [h, hr]
      exact { interruptCheck_ended { s with irqQueue := s.irqQueue.tail } with }
    · rw [h, hr]
      exact { interruptCheck_ended { s with
        irqQueue := s.irqQueue.tail, intPending := true, intDeadline := s.clock + s.params.intDuration } with }

/-! ## The three kinds of step (40_step_and_flags.md R401, R405, R409) -/

theorem step_of_fatal {s : State} (h : s.fatal ≠ none) : step s = .next s := by
  rw [step, if_pos (Option.isSome_iff_ne_none.mpr h)]; rfl

theorem step_of_halted {s : State} (hf : s.fatal = none) (hh : s.halted = true) :
    step s = .next s.haltedStep.endStep := by
  simp [step, hf, hh, haltedAnswer]

theorem step_of_running {s : State} (hs : s.Running) : step s = finish (exec s.fetchInstr s) := by
  simp [step, hs.1, hs.2]

/-- Everything a step can do. -/
theorem step_cases (s : State) :
    s.fatal ≠ none ∧ step s = .next s ∨
    s.fatal = none ∧ s.halted = true ∧ step s = .next s.haltedStep.endStep ∨
    s.Running ∧ ∃ t, exec s.fetchInstr s = .next t ∧ step s = .next t.endStep := by
  by_cases hf : s.fatal = none
  · by_cases hh : s.halted = true
    · exact .inr (.inl ⟨hf, hh, step_of_halted hf hh⟩)
    · have hs : s.Running := ⟨hf, by simpa using hh⟩
      obtain ⟨t, ht, -⟩ := exec_cases s.fetchInstr s
      exact .inr (.inr ⟨hs, t, ht, by rw [step_of_running hs, ht]; rfl⟩)
  · exact .inl ⟨hf, step_of_fatal hf⟩

/-- The same of a given answer. -/
theorem step_inv {s t : State} (h : step s = .next t) :
    s.fatal ≠ none ∧ t = s ∨ s.fatal = none ∧ s.halted = true ∧ t = s.haltedStep.endStep ∨
    s.Running ∧ ∃ u, exec s.fetchInstr s = .next u ∧ t = u.endStep := by
  obtain ⟨hf, hs⟩ | ⟨hf, hh, hs⟩ | ⟨hr, u, hu, hs⟩ := step_cases s
  · exact .inl ⟨hf, (Host.Outcome.next.inj (hs.symm.trans h)).symm⟩
  · exact .inr (.inl ⟨hf, hh, (Host.Outcome.next.inj (hs.symm.trans h)).symm⟩)
  · exact .inr (.inr ⟨hr, u, hu, (Host.Outcome.next.inj (hs.symm.trans h)).symm⟩)

theorem haltedStep_bitSeven (s : State) : s.haltedStep.r.getLsbD 7 = s.r.getLsbD 7 := by
  obtain ⟨-, hbit, -⟩ := State.refreshed_refresh (s.tick 4) 1
  exact hbit

/-! ## What instructions keep -/

theorem exec_params {i : Instr} {s t : State} (h : exec i s = .next t) : t.params = s.params := by
  obtain ⟨-, ht⟩ | ⟨-, d, c, hr⟩ := exec_inv h
  · obtain ⟨w, hw⟩ := daaStopped_eq s
    rw [ht, hw]; rfl
  · exact hr.params

theorem exec_canonical {i : Instr} {s t : State} (h : exec i s = .next t) (hm : Memory.wf s.mem = true) :
    Memory.wf t.mem = true := by
  obtain ⟨-, ht⟩ | ⟨-, d, c, hr⟩ := exec_inv h
  · obtain ⟨w, hw⟩ := daaStopped_eq s
    rw [ht, hw]; exact hm
  · exact hr.canonical hm

theorem exec_legal {i : Instr} {s t : State} (h : exec i s = .next t) (hm : s.im ≠ 3#2) : t.im ≠ 3#2 := by
  obtain ⟨-, ht⟩ | ⟨-, d, c, hr⟩ := exec_inv h
  · obtain ⟨w, hw⟩ := daaStopped_eq s
    rw [ht, hw]; exact hm
  · exact hr.legal hm

theorem exec_bitSeven {i : Instr} {s t : State} (hi : i ≠ .ldRA) (h : exec i s = .next t) :
    t.r.getLsbD 7 = s.r.getLsbD 7 := by
  obtain ⟨-, ht⟩ | ⟨-, d, c, hr⟩ := exec_inv h
  · rw [ht]; exact refreshIf_getLsbD_seven s .beforeExecute 1
  · exact hr.bitSeven hi

/-- The fatal marker changes by the strict `DAA` alone (R1410). -/
theorem exec_fatal {i : Instr} {s t : State} (h : exec i s = .next t) :
    t.fatal = s.fatal ∨ strictDaaFails i s ∧ t.fatal = some .daaOutOfTable := by
  obtain ⟨hs, ht⟩ | ⟨-, d, c, hr⟩ := exec_inv h
  · exact .inr ⟨hs, by rw [ht]; rfl⟩
  · exact .inl hr.fatal

theorem exec_clock {i : Instr} {s t : State} (h : exec i s = .next t) :
    strictDaaFails i s ∧ t.clock = s.clock ∨ s.clock + 4 ≤ t.clock ∧ t.clock ≤ s.clock + 23 := by
  obtain ⟨hs, ht⟩ | ⟨-, d, c, hr⟩ := exec_inv h
  · obtain ⟨w, hw⟩ := daaStopped_eq s
    exact .inl ⟨hs, by rw [ht, hw]; rfl⟩
  · have hc := hr.charge
    rw [hr.clock]
    omega

/-! ## The obligations about every instruction and every step -/

/-- Settles O12: the only two faults need the strict `DAA` or the illegal mode. -/
theorem noProgramReachesAFatalFault : Obligations.NoProgramReachesAFatalFault := by
  intro s t him hdaa hf h
  obtain ⟨hne, -⟩ | ⟨-, -, rfl⟩ | ⟨-, u, hu, rfl⟩ := step_inv h
  · exact absurd hf hne
  · have he := endStep_ended s.haltedStep
    refine ⟨?_, by rw [he.im]; exact him, he.params⟩
    exact (he.fatal.resolve_right fun hb => him hb.1).trans hf
  · have he := endStep_ended u
    have hlegal := exec_legal hu him
    have huf : u.fatal = s.fatal := (exec_fatal hu).resolve_right fun hb => by
      obtain ⟨⟨-, hstrict, -⟩, -⟩ := hb
      simp [hdaa] at hstrict
    refine ⟨?_, by rw [he.im]; exact hlegal, he.params.trans (exec_params hu)⟩
    exact (he.fatal.resolve_right fun hb => hlegal hb.1).trans (huf.trans hf)

/-- Settles O11: canonical memory is kept by every instruction and by an acceptance; the rest is O12. -/
theorem stepKeepsInvariant : Obligations.StepKeepsInvariant := by
  rintro s t ⟨hm, him, hdaa, hf⟩ h
  obtain ⟨htf, htim, htp⟩ := noProgramReachesAFatalFault s t him hdaa hf h
  refine ⟨?_, htim, by rw [htp]; exact hdaa, htf⟩
  obtain ⟨hne, -⟩ | ⟨-, -, rfl⟩ | ⟨-, u, hu, rfl⟩ := step_inv h
  · exact absurd hf hne
  · exact (endStep_ended s.haltedStep).canonical hm
  · exact (endStep_ended u).canonical (exec_canonical hu hm)

/-- Settles O7. -/
theorem noSynchronousException : Obligations.NoSynchronousException := by
  refine ⟨fun i s => ?instruction, fun s => ?step⟩
  case instruction =>
    obtain ⟨t, ht, -⟩ := exec_cases i s
    exact ⟨t, ht, exec_fatal ht⟩
  case step =>
    obtain ⟨-, hs⟩ | ⟨-, -, hs⟩ | ⟨-, u, hu, hs⟩ := step_cases s
    · exact ⟨s, hs, .inl rfl⟩
    · have he := endStep_ended s.haltedStep
      refine ⟨_, hs, ?_⟩
      rw [he.im]
      exact he.fatal.imp id .inl
    · have he := endStep_ended u
      refine ⟨_, hs, ?_⟩
      rw [he.im]
      obtain hkept | hbad := he.fatal
      · rw [hkept]
        exact (exec_fatal hu).imp id .inr
      · exact .inr (.inl hbad)

/-- Settles O8: an instruction costs 4 to 23 T-states, a halted step 4, an acceptance at most 19. -/
theorem clockAdvances : Obligations.ClockAdvances := by
  intro s t h
  obtain ⟨hf, rfl⟩ | ⟨-, -, rfl⟩ | ⟨-, u, hu, rfl⟩ := step_inv h
  · exact ⟨le_rfl, fun ht => absurd ht hf, Nat.le_add_right _ _⟩
  · have hc := (endStep_ended s.haltedStep).clock
    have hh : s.haltedStep.clock = s.clock + 4 := rfl
    omega
  · have hc := (endStep_ended u).clock
    obtain ⟨hs, hstop⟩ | ⟨hlow, hhigh⟩ := exec_clock hu
    · have huf : u.fatal = some .daaOutOfTable := by
        obtain ⟨-, ht⟩ | ⟨hn, -⟩ := exec_inv hu
        · rw [ht]; rfl
        · exact absurd hs hn
      have hend : u.endStep.fatal ≠ none := by
        obtain hkept | ⟨-, hbad⟩ := (endStep_ended u).fatal
        · rw [hkept, huf]; simp
        · rw [hbad]; simp
      exact ⟨by omega, fun ht => absurd ht hend, by omega⟩
    · exact ⟨by omega, fun _ => by omega, by omega⟩

/-- Settles O15: a refresh keeps bit 7, and so do an acceptance and every effect but that of `LD R,A`. -/
theorem refreshKeepsBitSeven : Obligations.RefreshKeepsBitSeven := by
  refine ⟨fun i s t hi h => exec_bitSeven hi h, fun s t hi h => ?_⟩
  obtain ⟨-, rfl⟩ | ⟨-, -, rfl⟩ | ⟨-, u, hu, rfl⟩ := step_inv h
  · rfl
  · exact (endStep_ended s.haltedStep).bitSeven.trans (haltedStep_bitSeven s)
  · exact (endStep_ended u).bitSeven.trans (exec_bitSeven hi hu)

/-- Settles O16. -/
theorem flipFlopAndModeWriters : Obligations.FlipFlopAndModeWriters := by
  refine ⟨fun i s t h => ?instruction, fun s => ⟨(interruptCheck_ended s).im, ?check⟩⟩
  case instruction =>
    obtain ⟨-, ht⟩ | ⟨-, d, c, hr⟩ := exec_inv h
    · obtain ⟨w, hw⟩ := daaStopped_eq s
      rw [ht, hw]
      exact ⟨fun _ => rfl, fun _ => rfl, fun _ => rfl, fun _ => rfl⟩
    · exact ⟨hr.iff1, hr.iff2, hr.im, hr.inhibit⟩
  case check =>
    obtain ⟨hc, -⟩ | ⟨hc, -⟩ | ⟨-, -, -, -, ⟨-, hc⟩ | ⟨-, hc⟩⟩ := interruptCheck_cases s
    · rw [hc]; exact .inl ⟨rfl, rfl⟩
    · rw [hc]; exact .inl ⟨rfl, rfl⟩
    · rw [hc]; exact .inl ⟨rfl, rfl⟩
    · obtain ⟨h1, h2, -⟩ := accept_control { s with intInhibit := false }
      rw [hc]; exact .inr ⟨h1, h2⟩

/-- Settles O19: the branches of `interruptCheck`, one by one. -/
theorem requestsThatAreNotAccepted : Obligations.RequestsThatAreNotAccepted := by
  refine fun s => ⟨rfl, rfl, fun hd => ?lapsesAtOnce, fun hp => ?none, fun hp hd => ?lapsed, fun hp hd hm => ?kept,
    fun hp hd h1 hi him => ?illegal⟩
  case lapsesAtOnce => simp [State.recordRequest, State.interruptCheck, hd]
  case none => simp [State.interruptCheck, hp]
  case lapsed => simp [State.interruptCheck, hp, hd]
  case kept => obtain h | h := hm <;> simp [State.interruptCheck, hp, Nat.not_le.mpr hd, h]
  case illegal => simp [State.interruptCheck, hp, Nat.not_le.mpr hd, h1, hi, him]

/-- Settles O20: the check is an acceptance, whose target and cost the mode decides. -/
theorem acceptanceEntersTheHandler : Obligations.AcceptanceEntersTheHandler := by
  intro s hp hd h1 hi
  have hs : { s with intInhibit := false } = s := by rw [← hi]
  have hacc := accepted_accept s hi
  refine ⟨fun him => ?fixed, fun him => ?vectored⟩
  case fixed =>
    have hcost : acceptCost s.im = 13 := if_pos him
    have hpc : s.accept.get .pc = 0x0038#16 := by
      rw [accept_eq_entered, State.refresh_get _ _ (by decide), State.tick_get, State.get_set_self]
      exact vector_of_im (by rw [entered_im]; exact him)
    rw [interruptCheck_of_due hp hd h1 hi (by rintro h3; simp [h3] at him), hs]
    rwa [hpc, hcost] at hacc
  case vectored =>
    have hcost : acceptCost s.im = 19 := if_neg (by simp [him])
    rw [interruptCheck_of_due hp hd h1 hi (by simp [him]), hs]
    rw [accept_pc_mode_two s him, hcost] at hacc
    exact hacc

/-! ## The halted sub-state (10_state.md R116, R405, D9) -/

theorem exec_halted {i : Instr} {s t : State} (h : exec i s = .next t) :
    t.halted = true ↔ s.halted = true ∨ i = .halt := by
  obtain ⟨hs, ht⟩ | ⟨-, d, c, hr⟩ := exec_inv h
  · obtain ⟨w, hw⟩ := daaStopped_eq s
    simp [ht, hw, hs.1]
  · exact hr.halted

/-- A halted step that the check at its end leaves halted was no acceptance; one that it ends was. -/
theorem interruptCheck_halted (s : State) (hh : s.halted = true) :
    s.interruptCheck.halted = true ∧ s.interruptCheck.regs = s.regs ∧ s.interruptCheck.clock = s.clock ∧
      s.interruptCheck.mem = s.mem ∧ s.interruptCheck.portIn = s.portIn ∧ s.interruptCheck.portLog = s.portLog ∨
    s.interruptCheck.halted = false ∧ s.iff1 = true ∧
      s.interruptCheck = State.accept { s with intInhibit := false } := by
  obtain ⟨hc, -⟩ | ⟨hc, -⟩ | ⟨-, -, h1, -, ⟨-, hc⟩ | ⟨-, hc⟩⟩ := interruptCheck_cases s
  · rw [hc]; exact .inl ⟨hh, rfl, rfl, rfl, rfl, rfl⟩
  · rw [hc]; exact .inl ⟨hh, rfl, rfl, rfl, rfl, rfl⟩
  · rw [hc]; exact .inl ⟨hh, rfl, rfl, rfl, rfl, rfl⟩
  · obtain ⟨-, -, -, -, -, -, hhalt, -⟩ := accept_control { s with intInhibit := false }
    exact .inr ⟨by rw [hc]; exact hhalt, h1, hc⟩

/-- The halted step with its input taken and its request recorded, before the check. -/
def State.haltedRecorded (s : State) : State :=
  State.recordRequest { s.haltedStep with irqQueue := s.irqQueue.tail } (s.irqQueue.headD false)

theorem haltedRecorded_eq (s : State) :
    ∃ p n, s.haltedRecorded =
      { s.haltedStep with irqQueue := s.irqQueue.tail, intPending := p, intDeadline := n } := by
  obtain h | h := recordRequest_cases { s.haltedStep with irqQueue := s.irqQueue.tail } (s.irqQueue.headD false)
  · exact ⟨_, _, h⟩
  · exact ⟨_, _, h⟩

theorem endStep_haltedStep {s : State} (hf : s.fatal = none) :
    s.haltedStep.endStep = s.haltedRecorded.interruptCheck := by
  obtain ⟨hne, -⟩ | ⟨-, h⟩ := endStep_cases s.haltedStep
  · exact absurd hf hne
  · exact h

/-- Settles O5. -/
theorem haltedSubstate : Obligations.HaltedSubstate := by
  refine ⟨fun i s t h => exec_halted h, fun s t hf hh h => ?_⟩
  obtain rfl : s.haltedStep.endStep = t := Host.Outcome.next.inj ((step_of_halted hf hh).symm.trans h)
  rw [endStep_haltedStep hf]
  obtain ⟨p, n, hrec⟩ := haltedRecorded_eq s
  refine ⟨rfl, ?_⟩
  obtain ⟨hstay, hregs, hclock, hmem, hin, hlog⟩ | ⟨hend, h1, hacc⟩ :=
    interruptCheck_halted s.haltedRecorded (by rw [hrec]; exact hh)
  · refine ⟨fun _ => ?_, fun hend => absurd hend (by simp [hstay])⟩
    have hget : ∀ g, s.haltedRecorded.interruptCheck.get g = s.haltedStep.get g := fun g => by
      rw [State.get, hregs, hrec]; rfl
    have hkeep : ∀ g, g ≠ .ir → s.haltedRecorded.interruptCheck.get g = s.get g := fun g hg =>
      (hget g).trans (State.refresh_get _ _ hg)
    refine ⟨hkeep _ (by decide), by rw [hclock, hrec]; rfl, ?refreshed, fun g hg => hkeep g (by simpa using hg),
      fun a => ?bytes, by rw [hin, hrec]; rfl, by rw [hlog, hrec]; rfl⟩
    case refreshed =>
      have hr := State.refreshed_refresh (s.tick 4) 1
      simp only [Refreshed, State.i, State.r, hget]
      exact hr
    case bytes => rw [State.readByte, hmem, hrec]; rfl
  · refine ⟨fun hstay => absurd hstay (by simp [hend]), fun _ => ?_⟩
    obtain ⟨-, hsp, hst, -, -, -, -, ht1, ht2, htp, -⟩ :=
      accepted_accept { s.haltedRecorded with intInhibit := false } rfl
    rw [hacc]
    refine ⟨by rw [hrec] at h1; exact h1, ht1, ht2, htp, hsp.trans ?_, fun b => (hst b).trans ?_⟩
    · rw [hrec]; rfl
    · rw [hrec]; rfl

end Sys2Proof.Machine
end

section
/-! PROOFS of 30_encoding.md: the decoder reads the encoder's bytes back, and every byte sequence is an encoding. Both go
table by table, by the fields of the opcode byte: with every field at a value, the decoder and the encoder compute, and
the operand bytes stand on both sides as they are. -/

namespace Sys2Proof

/-! ## Lengths and fields -/

theorem encode_length (i : Instr) : (encode i).length = i.length := by cases i <;> rfl

theorem length_pos (i : Instr) : 1 ≤ i.length := by cases i <;> exact Nat.le_of_ble_eq_true rfl

theorem length_le_four (i : Instr) : i.length ≤ 4 := by cases i <;> exact Nat.le_of_ble_eq_true rfl

theorem lookahead_le_four (i : Instr) : i.lookahead ≤ 4 := by
  unfold Instr.lookahead
  split
  · decide
  · exact length_le_four i

theorem bitVec1_cases : ∀ v : BitVec 1, v = 0 ∨ v = 1 := by decide

theorem bitVec2_cases : ∀ v : BitVec 2, v = 0 ∨ v = 1 ∨ v = 2 ∨ v = 3 := by decide

theorem bitVec3_cases : ∀ v : BitVec 3, v = 0 ∨ v = 1 ∨ v = 2 ∨ v = 3 ∨ v = 4 ∨ v = 5 ∨ v = 6 ∨ v = 7 := by decide

/-- An opcode byte is its fields x, y and z (R301). -/
theorem fields_eq : ∀ op : Byte, opX op ++ opY op ++ opZ op = op := by decide

/-- The byte that selects the table of an index register (R301). -/
def prefixByte (x : Idx) : Byte := 0b11#2 ++ x.code ++ 0b11101#5

theorem decodeWindow_prefixByte (x : Idx) (b1 b2 b3 : Byte) :
    decodeWindow (prefixByte x) b1 b2 b3 = decodePrefixed x b1 b2 b3 := by cases x <;> rfl

/-! ## What the decoder reads, encoded again (R307) -/

/-- The operand bytes that an encoding of `n` of them ends in, after a word has been read from two of them. -/
def operandTail (n : Nat) (b1 b2 : Byte) : List Byte :=
  match n with
  | 0 => []
  | 1 => [b1]
  | _ => [lo (w16 b2 b1), hi (w16 b2 b1)]

theorem operandTail_prefix (n : Nat) (b1 b2 : Byte) : operandTail n b1 b2 <+: [b1, b2] := by
  unfold operandTail
  split <;> simp

/-- `i` is well formed and encoded in the first bytes of `bs`. -/
def Begins (i : Instr) (bs : List Byte) : Prop := encode i <+: bs ∧ i.wellFormed = true

theorem begins_of_tail {i : Instr} {bs : List Byte} {n : Nat} {b1 b2 : Byte}
    (h : encode i = bs ++ operandTail n b1 b2 ∧ i.wellFormed = true) : Begins i (bs ++ [b1, b2]) :=
  ⟨by rw [h.1, List.prefix_append_right_inj]; exact operandTail_prefix n b1 b2, h.2⟩

theorem begins_decodePrimary0 (y z : BitVec 3) (b1 b2 : Byte) :
    Begins (decodePrimary0 (0b00#2 ++ y ++ z) b1 b2) [0b00#2 ++ y ++ z, b1, b2] := by
  refine begins_of_tail (bs := [_]) (n := (decodePrimary0 (0b00#2 ++ y ++ z) b1 b2).length - 1) ?_
  obtain rfl | rfl | rfl | rfl | rfl | rfl | rfl | rfl := bitVec3_cases y <;>
  obtain rfl | rfl | rfl | rfl | rfl | rfl | rfl | rfl := bitVec3_cases z <;>
  exact ⟨rfl, rfl⟩

theorem begins_decodePrimary1 : ∀ y z : BitVec 3,
    encode (decodePrimary1 (0b01#2 ++ y ++ z)) = [0b01#2 ++ y ++ z] ∧
      (decodePrimary1 (0b01#2 ++ y ++ z)).wellFormed = true := by decide

theorem begins_decodePrimary2 : ∀ y z : BitVec 3,
    encode (decodePrimary2 (0b10#2 ++ y ++ z)) = [0b10#2 ++ y ++ z] ∧
      (decodePrimary2 (0b10#2 ++ y ++ z)).wellFormed = true := by decide

/-- The bytes that select another table (R302). -/
def selectorBytes : List Byte := [0xCB#8, 0xED#8, 0xDD#8, 0xFD#8]

theorem begins_decodePrimary3 (y z : BitVec 3) (b1 b2 : Byte) (h : 0b11#2 ++ y ++ z ∉ selectorBytes) :
    Begins (decodePrimary3 (0b11#2 ++ y ++ z) b1 b2) [0b11#2 ++ y ++ z, b1, b2] := by
  refine begins_of_tail (bs := [_]) (n := (decodePrimary3 (0b11#2 ++ y ++ z) b1 b2).length - 1) ?_
  obtain rfl | rfl | rfl | rfl | rfl | rfl | rfl | rfl := bitVec3_cases y <;>
  obtain rfl | rfl | rfl | rfl | rfl | rfl | rfl | rfl := bitVec3_cases z
  any_goals exact ⟨rfl, rfl⟩
  all_goals exact absurd (by decide) h

theorem begins_decodeCb : ∀ op : Byte,
    encode (decodeCb op) = [0xCB#8, op] ∧ (decodeCb op).wellFormed = true := by decide

theorem begins_decodeEd (op b2 b3 : Byte) : Begins (decodeEd op b2 b3) [0xED#8, op, b2, b3] := by
  refine begins_of_tail (bs := [_, _]) (n := (decodeEd op b2 b3).length - 2) ?_
  rw [← fields_eq op]
  generalize opY op = y, opZ op = z
  obtain h | h | h | h := bitVec2_cases (opX op) <;> rw [h] <;>
  obtain rfl | rfl | rfl | rfl | rfl | rfl | rfl | rfl := bitVec3_cases y <;>
  obtain rfl | rfl | rfl | rfl | rfl | rfl | rfl | rfl := bitVec3_cases z <;>
  exact ⟨rfl, rfl⟩

/-- What follows a `DD` or `FD` byte, where the no-op takes nothing more. -/
def prefixedTail (n : Nat) (op b2 b3 : Byte) : List Byte :=
  match n with
  | 0 => []
  | n + 1 => op :: operandTail n b2 b3

theorem prefixedTail_prefix (n : Nat) (op b2 b3 : Byte) : prefixedTail n op b2 b3 <+: [op, b2, b3] := by
  unfold prefixedTail
  split
  · simp
  · simpa using operandTail_prefix _ b2 b3

/-- `LD (IX+d),n` is the one instruction with two operands of a byte each. -/
theorem begins_ldMemIdxImm (x : Idx) (b2 b3 : Byte) :
    Begins (.ldMemIdxImm x b2 b3) [prefixByte x, 0b00110110#8, b2, b3] := ⟨List.prefix_refl _, rfl⟩

theorem begins_decodeXy (x : Idx) (op b2 b3 : Byte) :
    Begins ((decodeXy x op b2 b3).getD (.nopPrefix x)) [prefixByte x, op, b2, b3] := by
  have key : ∀ i : Instr, encode i = prefixByte x :: prefixedTail (i.length - 1) op b2 b3 ∧ i.wellFormed = true →
      Begins i [prefixByte x, op, b2, b3] := fun i h =>
    ⟨by rw [h.1, List.cons_prefix_cons]; exact ⟨rfl, prefixedTail_prefix _ _ _ _⟩, h.2⟩
  rw [← fields_eq op] at key ⊢
  generalize opY op = y, opZ op = z at key ⊢
  obtain h | h | h | h := bitVec2_cases (opX op) <;> rw [h] at key ⊢ <;>
  obtain rfl | rfl | rfl | rfl | rfl | rfl | rfl | rfl := bitVec3_cases y <;>
  obtain rfl | rfl | rfl | rfl | rfl | rfl | rfl | rfl := bitVec3_cases z
  any_goals exact key _ ⟨rfl, rfl⟩
  exact begins_ldMemIdxImm x b2 b3

theorem encode_decodeXyCb (x : Idx) (d op : Byte) :
    encode (decodeXyCb x d op) = [prefixByte x, 0xCB#8, d, op] ∧ (decodeXyCb x d op).wellFormed = true := by
  rw [← fields_eq op]
  generalize opY op = y, opZ op = z
  obtain h | h | h | h := bitVec2_cases (opX op) <;> rw [h] <;>
  obtain rfl | rfl | rfl | rfl | rfl | rfl | rfl | rfl := bitVec3_cases y <;>
  obtain rfl | rfl | rfl | rfl | rfl | rfl | rfl | rfl := bitVec3_cases z <;>
  exact ⟨rfl, rfl⟩

theorem begins_decodePrefixed (x : Idx) (b1 b2 b3 : Byte) :
    Begins (decodePrefixed x b1 b2 b3) [prefixByte x, b1, b2, b3] := by
  unfold decodePrefixed
  split
  case isTrue h =>
    obtain rfl : b1 = 0xCB#8 := by simpa using h
    obtain ⟨he, hw⟩ := encode_decodeXyCb x b2 b3
    exact ⟨by rw [he], hw⟩
  case isFalse => exact begins_decodeXy x b1 b2 b3

theorem begins_decodePrimary (op b1 b2 : Byte) (h : op ∉ selectorBytes) :
    Begins (decodePrimary op b1 b2) [op, b1, b2] := by
  have hx : ∀ x : BitVec 2, opX op = x → op = x ++ opY op ++ opZ op := by rintro _ rfl; exact (fields_eq op).symm
  unfold decodePrimary
  split
  next h0 => rw [hx _ h0]; exact begins_decodePrimary0 _ _ b1 b2
  next h1 =>
    obtain ⟨he, hw⟩ := begins_decodePrimary1 (opY op) (opZ op)
    rw [hx _ h1]
    exact ⟨by rw [he]; simp, hw⟩
  next h2 =>
    obtain ⟨he, hw⟩ := begins_decodePrimary2 (opY op) (opZ op)
    rw [hx _ h2]
    exact ⟨by rw [he]; simp, hw⟩
  next h0 h1 h2 =>
    have h3 : opX op = 0b11#2 := (((bitVec2_cases (opX op)).resolve_left h0).resolve_left h1).resolve_left h2
    rw [hx _ h3] at h ⊢
    exact begins_decodePrimary3 _ _ b1 b2 h

theorem begins_decodeWindow (b0 b1 b2 b3 : Byte) : Begins (decodeWindow b0 b1 b2 b3) [b0, b1, b2, b3] := by
  unfold decodeWindow
  split
  · obtain ⟨he, hw⟩ := begins_decodeCb b1
    exact ⟨by rw [he]; simp, hw⟩
  · exact begins_decodeEd b1 b2 b3
  · exact begins_decodePrefixed .ix b1 b2 b3
  · exact begins_decodePrefixed .iy b1 b2 b3
  next hcb hed hdd hfd =>
    obtain ⟨he, hw⟩ := begins_decodePrimary b0 b1 b2 (by simp [selectorBytes]; exact ⟨hcb, hed, hdd, hfd⟩)
    exact ⟨he.trans (List.prefix_append [b0, b1, b2] [b3]), hw⟩

/-- Settles O3: four bytes are enough for every instruction, and they begin with its encoding. -/
theorem everyByteSequenceDecodes : Obligations.EveryByteSequenceDecodes := by
  intro bs hlen
  obtain ⟨b0, b1, b2, b3, tl, rfl⟩ : ∃ b0 b1 b2 b3 tl, bs = b0 :: b1 :: b2 :: b3 :: tl := by
    match bs, hlen with
    | b0 :: b1 :: b2 :: b3 :: tl, _ => exact ⟨b0, b1, b2, b3, tl, rfl⟩
  obtain ⟨hpre, hw⟩ := begins_decodeWindow b0 b1 b2 b3
  set i := decodeWindow b0 b1 b2 b3 with hi
  have hall : encode i <+: b0 :: b1 :: b2 :: b3 :: tl := hpre.trans (List.prefix_append [b0, b1, b2, b3] tl)
  refine ⟨i, (b0 :: b1 :: b2 :: b3 :: tl).drop i.length, if_pos ?_, hw, ?_, length_pos i, length_le_four i,
    encode_length i⟩
  · exact (lookahead_le_four i).trans hlen
  · rw [← encode_length, ← List.prefix_append_drop hall]

end Sys2Proof
end

section
/-! PROOFS of 30_encoding.md, the other direction: what the encoder writes, the decoder reads (O2). -/

namespace Sys2Proof

/-! ## The fields of an opcode byte written from its fields -/

@[simp] theorem opX_fields : ∀ (x : BitVec 2) (y z : BitVec 3), opX (x ++ y ++ z) = x := by decide
@[simp] theorem opY_fields : ∀ (x : BitVec 2) (y z : BitVec 3), opY (x ++ y ++ z) = y := by decide
@[simp] theorem opZ_fields : ∀ (x : BitVec 2) (y z : BitVec 3), opZ (x ++ y ++ z) = z := by decide

@[simp] theorem Reg8.ofCode_code (r : Reg8) : Reg8.ofCode r.code = some r := by cases r <;> rfl
@[simp] theorem Reg8.ofCode_six : Reg8.ofCode 0b110#3 = none := rfl

theorem decodeWindow_of_not_selector {b0 : Byte} (h : b0 ∉ selectorBytes) (b1 b2 b3 : Byte) :
    decodeWindow b0 b1 b2 b3 = decodePrimary b0 b1 b2 := by
  simp only [selectorBytes, List.mem_cons, List.not_mem_nil, or_false, not_or] at h
  obtain ⟨hcb, hed, hdd, hfd⟩ := h
  unfold decodeWindow
  split
  · exact absurd rfl hcb
  · exact absurd rfl hed
  · exact absurd rfl hdd
  · exact absurd rfl hfd
  · rfl

theorem rst_not_selector : ∀ t : BitVec 3, 0b11#2 ++ t ++ 0b111#3 ∉ selectorBytes := by decide

/-! ## Opcode bytes of the `ED` table with bits that are ignored (log 15) -/

theorem decodeEd_im0 (z z2 : BitVec 1) (b2 b3 : Byte) :
    decodeEd (0b01#2 ++ z ++ 0b0#1 ++ z2 ++ 0b110#3) b2 b3 = .im0 z z2 := by
  obtain rfl | rfl := bitVec1_cases z <;> obtain rfl | rfl := bitVec1_cases z2 <;> rfl

theorem decodeEd_im1 (z : BitVec 1) (b2 b3 : Byte) : decodeEd (0b01#2 ++ z ++ 0b10110#5) b2 b3 = .im1 z := by
  obtain rfl | rfl := bitVec1_cases z <;> rfl

theorem decodeEd_im2 (z : BitVec 1) (b2 b3 : Byte) : decodeEd (0b01#2 ++ z ++ 0b11110#5) b2 b3 = .im2 z := by
  obtain rfl | rfl := bitVec1_cases z <;> rfl

theorem decodeEd_nopEdSeven (z : BitVec 1) (b2 b3 : Byte) :
    decodeEd (0b0111#4 ++ z ++ 0b111#3) b2 b3 = .nopEdSeven z := by
  obtain rfl | rfl := bitVec1_cases z <;> rfl

theorem decodeEd_nopEdBlock (z z2 : BitVec 2) (b2 b3 : Byte) :
    decodeEd (0b101#3 ++ z ++ 0b1#1 ++ z2) b2 b3 = .nopEdBlock z z2 := by
  have hf : ∀ z z2 : BitVec 2, let op : Byte := 0b101#3 ++ z ++ 0b1#1 ++ z2
      opX op = 0b10#2 ∧ op.getLsbD 5 = true ∧ op.getLsbD 2 = true ∧ op.extractLsb' 3 2 = z ∧
        op.extractLsb' 0 2 = z2 := by
    decide
  obtain ⟨hx, h5, h2, hz, hz2⟩ := hf z z2
  rw [decodeEd, hx, h5, h2, hz, hz2]
  rfl

theorem decodeEd_nopEdLow (z : BitVec 6) (b2 b3 : Byte) : decodeEd (0b00#2 ++ z) b2 b3 = .nopEdLow z := by
  have hf : ∀ z : BitVec 6, opX (0b00#2 ++ z) = 0b00#2 ∧ (0b00#2 ++ z).extractLsb' 0 6 = z := by decide
  rw [decodeEd, (hf z).1, (hf z).2]
  rfl

theorem decodeEd_nopEdHigh (z : BitVec 6) (b2 b3 : Byte) : decodeEd (0b11#2 ++ z) b2 b3 = .nopEdHigh z := by
  have hf : ∀ z : BitVec 6, opX (0b11#2 ++ z) = 0b11#2 ∧ (0b11#2 ++ z).extractLsb' 0 6 = z := by decide
  rw [decodeEd, (hf z).1, (hf z).2]
  rfl

theorem decodeEd_nopEdMid (z : BitVec 5) (b2 b3 : Byte) : decodeEd (0b100#3 ++ z) b2 b3 = .nopEdMid z := by
  have hf : ∀ z : BitVec 5, opX (0b100#3 ++ z) = 0b10#2 ∧ (0b100#3 ++ z).getLsbD 5 = false ∧
      (0b100#3 ++ z).extractLsb' 0 5 = z := by decide
  obtain ⟨hx, h5, hz⟩ := hf z
  rw [decodeEd, hx, h5, hz]
  rfl

/-! ## The no-op of a `DD` or `FD` byte (R308) -/

/-- Whether a byte combines with `DD` or `FD` is seen in that byte alone. -/
theorem decodeXy_isNone (x : Idx) (op b2 b3 : Byte) : (decodeXy x op b2 b3).isNone = (decodeXy x op 0 0).isNone := by
  rw [← fields_eq op]
  generalize opY op = y, opZ op = z
  obtain h | h | h | h := bitVec2_cases (opX op) <;> rw [h] <;>
  obtain rfl | rfl | rfl | rfl | rfl | rfl | rfl | rfl := bitVec3_cases y <;>
  obtain rfl | rfl | rfl | rfl | rfl | rfl | rfl | rfl := bitVec3_cases z <;>
  rfl

theorem decodePrefixed_of_standsBefore {x : Idx} {b1 : Byte} {rest : List Byte}
    (h : (Instr.nopPrefix x).standsBefore (b1 :: rest) = true) (b2 b3 : Byte) :
    decodePrefixed x b1 b2 b3 = .nopPrefix x := by
  simp only [Instr.standsBefore, Bool.and_eq_true, bne_iff_ne, ne_eq] at h
  obtain ⟨hcb, hnone⟩ := h
  rw [← decodeXy_isNone x b1 b2 b3, Option.isNone_iff_eq_none] at hnone
  simp [decodePrefixed, hcb, hnone]

/-! ## Every instruction -/

/-- The window that a list of bytes fills. -/
def windowOf (bs : List Byte) : Instr := decodeWindow (bs.getD 0 0) (bs.getD 1 0) (bs.getD 2 0) (bs.getD 3 0)

section Tables
variable {i : Instr} {op d : Byte} {bs : List Byte} {x : Idx}

theorem windowOf_primary (h : op ∉ selectorBytes) (hd : decodePrimary op (bs.getD 0 0) (bs.getD 1 0) = i) :
    windowOf (op :: bs) = i := (decodeWindow_of_not_selector h _ _ _).trans hd

theorem windowOf_cb (hd : decodeCb op = i) : windowOf (0xCB#8 :: op :: bs) = i := hd

theorem windowOf_ed (hd : decodeEd op (bs.getD 0 0) (bs.getD 1 0) = i) : windowOf (0xED#8 :: op :: bs) = i := hd

theorem windowOf_xy (hd : decodePrefixed x op (bs.getD 0 0) (bs.getD 1 0) = i) :
    windowOf (prefixByte x :: op :: bs) = i := (decodeWindow_prefixByte x _ _ _).trans hd

theorem windowOf_xyCb (hd : decodeXyCb x d op = i) : windowOf (prefixByte x :: 0xCB#8 :: d :: op :: bs) = i :=
  windowOf_xy hd

end Tables

/-- Table by table: with the fields of the opcode bytes at a value, both sides compute. The fields that are kept as a
value of the instruction (a bit number, an ignored bit) are read back by the lemmas above. -/
theorem windowOf_encode (i : Instr) (rest : List Byte) (hw : i.wellFormed = true) (hs : i.standsBefore rest = true) :
    windowOf (encode i ++ rest) = i := by
  cases i with
  | nopPrefix x =>
    cases rest with
    | nil => cases hs
    | cons b rest => exact windowOf_xy (decodePrefixed_of_standsBefore hs _ _)
  | nopEdLow z => exact windowOf_ed (decodeEd_nopEdLow z _ _)
  | nopEdHigh z => exact windowOf_ed (decodeEd_nopEdHigh z _ _)
  | nopEdMid z => exact windowOf_ed (decodeEd_nopEdMid z _ _)
  | nopEdBlock z z2 => exact windowOf_ed (decodeEd_nopEdBlock z z2 _ _)
  | nopEdSeven z => exact windowOf_ed (decodeEd_nopEdSeven z _ _)
  | im0 z z2 => exact windowOf_ed (decodeEd_im0 z z2 _ _)
  | im1 z => exact windowOf_ed (decodeEd_im1 z _ _)
  | im2 z => exact windowOf_ed (decodeEd_im2 z _ _)
  | rst t => exact windowOf_primary (rst_not_selector t) (by simp [decodePrimary, decodePrimary3])
  | neg z => exact windowOf_ed (op := 0b01#2 ++ z ++ 0b100#3) (by simp [decodeEd, decodeEd1])
  | retn z =>
    have hz : z ≠ 0b001#3 := by simpa [Instr.wellFormed] using hw
    exact windowOf_ed (op := 0b01#2 ++ z ++ 0b101#3) (by simp [decodeEd, decodeEd1, hz])
  | bitReg b r => exact windowOf_cb (op := 0b01#2 ++ b ++ r.code) (by simp [decodeCb])
  | resReg b r => exact windowOf_cb (op := 0b10#2 ++ b ++ r.code) (by simp [decodeCb])
  | setReg b r => exact windowOf_cb (op := 0b11#2 ++ b ++ r.code) (by simp [decodeCb])
  | bitMemHl b => exact windowOf_cb (op := 0b01#2 ++ b ++ 0b110#3) (by simp [decodeCb])
  | resMemHl b => exact windowOf_cb (op := 0b10#2 ++ b ++ 0b110#3) (by simp [decodeCb])
  | setMemHl b => exact windowOf_cb (op := 0b11#2 ++ b ++ 0b110#3) (by simp [decodeCb])
  | bitMemIdx x d b z => exact windowOf_xyCb (op := 0b01#2 ++ b ++ z) (by simp [decodeXyCb])
  | resMemIdx x d b => exact windowOf_xyCb (op := 0b10#2 ++ b ++ 0b110#3) (by simp [decodeXyCb])
  | setMemIdx x d b => exact windowOf_xyCb (op := 0b11#2 ++ b ++ 0b110#3) (by simp [decodeXyCb])
  | resMemIdxCopy x d b r => exact windowOf_xyCb (op := 0b10#2 ++ b ++ r.code) (by simp [decodeXyCb])
  | setMemIdxCopy x d b r => exact windowOf_xyCb (op := 0b11#2 ++ b ++ r.code) (by simp [decodeXyCb])
  | jrCond cc e =>
    cases cc with
    | nz | z | nc | c => exact windowOf_primary (by decide) rfl
    | po | pe | p | m => cases hw
  | ldRegHalf x r h =>
    cases r with
    | h | l => cases hw
    | b | c | d | e | a => cases h <;> exact windowOf_xy rfl
  | ldHalfReg x h r =>
    cases r with
    | h | l => cases hw
    | b | c | d | e | a => cases h <;> exact windowOf_xy rfl
  | ldHalfHalf x h k => cases h <;> cases k <;> exact windowOf_xy rfl
  | ldPairImm p nn =>
    conv_rhs => rw [← w16_hi_lo nn]
    cases p <;> exact windowOf_primary (by decide) rfl
  | ldMemNnHl nn | ldMemNnA nn | ldHlMemNn nn | ldAMemNn nn | jp nn | call nn =>
    conv_rhs => rw [← w16_hi_lo nn]
    exact windowOf_primary (by decide) rfl
  | incPair p | addHlPair p | decPair p => cases p <;> exact windowOf_primary (by decide) rfl
  | incReg r | decReg r | ldRegImm r n | ldRegMemHl r | ldMemHlReg r | addAReg r | adcAReg r | subAReg r
  | sbcAReg r | andAReg r | xorAReg r | orAReg r | cpAReg r => cases r <;> exact windowOf_primary (by decide) rfl
  | ldRegReg r r2 => cases r <;> cases r2 <;> exact windowOf_primary (by decide) rfl
  | addAMemIdx x d | adcAMemIdx x d | subAMemIdx x d | sbcAMemIdx x d | andAMemIdx x d | xorAMemIdx x d
  | orAMemIdx x d | cpAMemIdx x d | incIdx x | decIdx x | incMemIdx x d | decMemIdx x d | ldMemIdxImm x d n
  | popIdx x | exMemSpIdx x | pushIdx x | jpIdx x | ldSpIdx x => exact windowOf_xy rfl
  | addAHalf x h | adcAHalf x h | subAHalf x h | sbcAHalf x h | andAHalf x h | xorAHalf x h | orAHalf x h
  | cpAHalf x h | incHalf x h | decHalf x h | ldHalfImm x h n => cases h <;> exact windowOf_xy rfl
  | retCond cc => cases cc <;> exact windowOf_primary (by decide) rfl
  | popPair q | pushPair q => cases q <;> exact windowOf_primary (by decide) rfl
  | jpCond cc nn | callCond cc nn =>
    conv_rhs => rw [← w16_hi_lo nn]
    cases cc <;> exact windowOf_primary (by decide) rfl
  | rlcReg r | rrcReg r | rlReg r | rrReg r | slaReg r | sraReg r | sllReg r | srlReg r =>
    cases r <;> exact windowOf_cb rfl
  | rlcMemHl | rrcMemHl | rlMemHl | rrMemHl | slaMemHl | sraMemHl | sllMemHl | srlMemHl => exact windowOf_cb rfl
  | rlcMemIdx x d | rrcMemIdx x d | rlMemIdx x d | rrMemIdx x d | slaMemIdx x d | sraMemIdx x d | sllMemIdx x d
  | srlMemIdx x d => exact windowOf_xyCb rfl
  | rlcMemIdxCopy x d r | rrcMemIdxCopy x d r | rlMemIdxCopy x d r | rrMemIdxCopy x d r | slaMemIdxCopy x d r
  | sraMemIdxCopy x d r | sllMemIdxCopy x d r | srlMemIdxCopy x d r => cases r <;> exact windowOf_xyCb rfl
  | inRegC r | outCReg r => cases r <;> exact windowOf_ed rfl
  | inFC | outCZero | reti | ldIA | ldRA | ldAI | ldAR | rrd | rld | ldi | cpi | ini | outi | ldd | cpd | ind
  | outd | ldir | cpir | inir | otir | lddr | cpdr | indr | otdr => exact windowOf_ed rfl
  | sbcHlPair p | adcHlPair p => cases p <;> exact windowOf_ed rfl
  | ldMemNnPair p nn | ldPairMemNn p nn =>
    conv_rhs => rw [← w16_hi_lo nn]
    cases p <;> exact windowOf_ed rfl
  | addIdxPair x p => cases p <;> exact windowOf_xy rfl
  | ldIdxImm x nn | ldMemNnIdx x nn | ldIdxMemNn x nn =>
    conv_rhs => rw [← w16_hi_lo nn]
    exact windowOf_xy rfl
  | ldRegMemIdx x r d | ldMemIdxReg x r d => cases r <;> exact windowOf_xy rfl
  | _ => exact windowOf_primary (by decide) rfl

/-- The decoder sees enough of the list: the instruction, and after the no-op of R308 the byte that does not combine. -/
theorem lookahead_le (i : Instr) (rest : List Byte) (hs : i.standsBefore rest = true) :
    i.lookahead ≤ (encode i ++ rest).length := by
  unfold Instr.lookahead
  split
  · cases rest with
    | nil => cases hs
    | cons b rest => simp [encode]
  · simp [encode_length]

/-- Settles O2. -/
theorem decodeReadsBackEncode : Obligations.DecodeReadsBackEncode := by
  intro i rest hw hs
  have hwin : decodeWindow ((encode i ++ rest).getD 0 0) ((encode i ++ rest).getD 1 0) ((encode i ++ rest).getD 2 0)
      ((encode i ++ rest).getD 3 0) = i := windowOf_encode i rest hw hs
  simp only [decode, hwin]
  rw [if_pos (lookahead_le i rest hs), ← encode_length i, List.drop_left]

/-- Settles O1: each word is the encoding of its instruction, so the decoder reads it back. -/
theorem sampleWordsDecode : Obligations.SampleWordsDecode := by
  have h := fun i rest => decodeReadsBackEncode i rest
  exact ⟨h (.ldRegReg .a .b) [] rfl rfl, h (.ldPairImm .hl 0x1234#16) [] rfl rfl, h (.jrCond .c 0x80#8) [] rfl rfl,
    h (.bitMemHl 7#3) [] rfl rfl, h .ldir [] rfl rfl, h (.ldMemNnPair .bc 0x8010#16) [] rfl rfl,
    h (.ldMemIdxImm .ix 0x02#8 0xAA#8) [] rfl rfl, h (.rlcMemIdxCopy .iy 0xFF#8 .b) [] rfl rfl,
    h (.nopPrefix .ix) [0x00#8] rfl rfl⟩

end Sys2Proof
end

section
/-! PROOFS of the statements on the step, reset and memory alone (O4, O6, O9, O10, O22, O23, O24). -/

namespace Sys2Proof.Machine

/-! ## The step (40_step_and_flags.md R401, R409) -/

/-- The four bytes of the fetch are all the decoder looks at. -/
theorem fetchInstr_of_decode {s : State} {i : Instr} {rest : List Byte}
    (h : decode [s.readByte (s.get .pc), s.readByte (s.get .pc + 1), s.readByte (s.get .pc + 2),
      s.readByte (s.get .pc + 3)] = .ok (i, rest)) : s.fetchInstr = i := by
  have hf : s.fetchInstr = decodeWindow (s.readByte (s.get .pc)) (s.readByte (s.get .pc + 1))
      (s.readByte (s.get .pc + 2)) (s.readByte (s.get .pc + 3)) := by
    simp [State.fetchInstr, State.fetch]
  simp only [decode, List.getD_cons_zero, List.getD_cons_succ, ← hf] at h
  split at h
  · exact (Prod.mk.inj (Except.ok.inj h)).1
  · cases h

/-- Settles O4. -/
theorem stepRunsDecodedInstruction : Obligations.StepRunsDecodedInstruction := by
  intro s i rest hs hd
  obtain ⟨t, ht, -⟩ := exec_cases i s
  refine ⟨t, ht, ?_, fun hf => ?_, fun hf => ?_⟩
  · rw [step_of_running hs, fetchInstr_of_decode hd, ht]; rfl
  · obtain ⟨hne, -⟩ | ⟨-, h⟩ := endStep_cases t
    · exact absurd hf hne
    · exact h
  · obtain ⟨-, h⟩ | ⟨hnone, -⟩ := endStep_cases t
    · exact h
    · exact absurd hnone hf

/-- Settles O6. -/
theorem fatalStateStays : Obligations.FatalStateStays := fun _ => step_of_fatal

/-! ## Reset (70_reset_and_hazards.md R1500, R1502) -/

theorem Regs.get_zero (g : Reg16) : Regs.zero.get g = 0#16 := by cases g <;> rfl

/-- Settles O9. -/
theorem resetState : Obligations.ResetState := ⟨Regs.get_zero, rfl, rfl, rfl, rfl, rfl, rfl, rfl, rfl, rfl⟩

/-- Settles O10. -/
theorem resetMeetsInvariant : Obligations.ResetMeetsInvariant := ⟨reset_memory_wf, by decide, rfl, rfl⟩

theorem hostReset_regs (s : State) : s.hostReset.regs = resetRegs s.params.resetProfile s.draws := rfl

/-- Settles O24. -/
theorem hostReset : Obligations.HostReset := by
  intro s
  refine ⟨fun hp g => ?_, fun hp => ?_, rfl, rfl, rfl, rfl, rfl, rfl, rfl, rfl, rfl, rfl, rfl, rfl, rfl⟩
  · have hr : s.hostReset.regs = Regs.zero := by rw [hostReset_regs, hp]; rfl
    rw [State.get, hr]
    exact Regs.get_zero g
  · have hr : s.hostReset.regs = siliconRegs s.draws := by rw [hostReset_regs, hp]; rfl
    simp only [State.get, hr]
    exact ⟨rfl, rfl, rfl, rfl⟩

/-! ## Memory (20_memory.md R202, R204) -/

theorem readWord_writeWord_of_writable {s : State} {a w : Word} (h0 : Params.writable s.params a.toNat = true)
    (h1 : Params.writable s.params (a + 1).toNat = true) : (s.writeWord a w).readWord a = w := by
  have hne : a ≠ a + 1 := by simp
  rw [State.readWord, State.readByte_writeWord, State.readByte_writeWord, if_pos ⟨rfl, h1⟩,
    if_neg fun h => hne h.1, if_pos ⟨rfl, h0⟩, w16_hi_lo]

/-- Settles O22: a word store is two byte stores, the second at the next address modulo 2^16. -/
theorem storesReadBack : Obligations.StoresReadBack := by
  intro s a w v
  refine ⟨fun b => State.readByte_writeByte s a b v, fun b => State.readByte_writeWord s a b w,
    readWord_writeWord_of_writable, ?_⟩
  simp [State.readWord, State.readByte_writeWord]

/-- Above the 16-bit addresses a canonical memory holds nothing. -/
theorem Memory.read_of_wf {m : List Host.Cell} {p a : Nat} (h : Memory.wfFrom p m = true) (ha : 65536 ≤ a) :
    Memory.read m a = Memory.unlisted := by
  induction m generalizing p with
  | nil => rfl
  | cons c m ih =>
    obtain ⟨k, v⟩ := c
    simp only [Memory.wfFrom, Bool.and_eq_true, decide_eq_true_eq] at h
    obtain ⟨⟨⟨-, hk⟩, -⟩, hm⟩ := h
    rw [Memory.read, if_neg (by omega)]
    exact ih hm

/-- Settles O23. -/
theorem memoryStaysCanonical : Obligations.MemoryStaysCanonical := by
  refine ⟨State.wf_writeByte, fun m n hm hn h => Memory.ext_of_read hm hn fun a => ?_⟩
  by_cases ha : a < 65536
  · simpa [Nat.mod_eq_of_lt ha] using h (BitVec.ofNat 16 a)
  · rw [Memory.read_of_wf hm (by omega), Memory.read_of_wf hn (by omega)]

end Sys2Proof.Machine
end

section
/-! PROOFS, the shapes of the instructions of the families. An effect is one of a few operations with operands it reads
from the state; for each operation one lemma turns it into the statement about the instruction, the frame by `Keeps`. -/

namespace Sys2Proof.Machine

/-! ## From an effect to a run -/

/-- The frame of an effect, which starts from a state that may differ from `s` in IR. -/
theorem Keeps.frame {but : List Reg16} {s v : State} {w : Word} (h : Keeps (.pc :: but) (s.set .ir w) v)
    (hir : .ir ∉ but) : v.clock = s.clock ∧ v.get .ir = w ∧ v.params = s.params ∧ SameControl s v ∧
      SameRegs s v (.pc :: .ir :: but) := by
  refine ⟨h.clock, (h.get (by simp [hir])).trans (State.get_set_self s .ir w), h.params, h.control, fun g hg => ?_⟩
  simp only [List.mem_cons, not_or] at hg
  obtain ⟨hgpc, hgir, hbut⟩ := hg
  exact (h.get (by simp [hgpc, hbut])).trans (State.get_set_ne s (Ne.symm hgir) w)

theorem Keeps.cons {but : List Reg16} {s t : State} (h : Keeps but s t) (g : Reg16) : Keeps (g :: but) s t :=
  ⟨fun q hq => h.regs q fun hb => hq (.tail _ hb), h.control, h.clock, h.canonical⟩

section
variable {i : Instr} {s : State} {len cost k : Nat} {but : List Reg16} {Q : State → Prop}

theorem runs_of_keeps {f : State → State} (he : exec i s = straight len cost k f s) (hpc : .pc ∉ but) (hir : .ir ∉ but)
    (hk : ∀ u, Keeps but u (f u))
    (hQ : ∀ w p n w2 o, Q (((((f (s.set .ir w)).set .pc p).tick n).set .ir w2).reporting o)) :
    Runs i s (s.get .pc + BitVec.ofNat 16 len) cost k but Q := by
  refine runsTo_of_straight he fun w => ?_
  obtain ⟨hclock, hr, hparams, hctl, hregs⟩ := ((hk (s.set .ir w)).cons .pc).frame hir
  exact ⟨((hk _).get hpc).trans (State.get_set_ne s (by decide) w), hclock, hr, hparams, hctl, hregs, hQ w⟩

/-! ## One register, or a part of it -/

theorem runsQuiet_set {g : Reg16} {v : State → Word} (he : exec i s = straight len cost k (fun u => u.set g (v u)) s)
    (hg : g ≠ .pc ∧ g ≠ .ir) (hv : ∀ w, v (s.set .ir w) = v s) :
    RunsQuiet i s len cost k [g] fun t => t.get g = v s :=
  runs_of_keeps he (by simpa using Ne.symm hg.1) (by simpa using Ne.symm hg.2) (fun u => keeps_set u (by simp) _)
    fun w p n w2 o => ⟨fun a => by simp, by simp [SamePorts],
      by simp [State.get_set_ne _ (Ne.symm hg.1), State.get_set_ne _ (Ne.symm hg.2), hv]⟩

theorem wroteReg8_setReg8 (s : State) (r : Reg8) (v : Byte) : WroteReg8 s (s.setReg8 r v) r v :=
  ⟨⟨by simp [State.reg8_setReg8], fun q hq => by simp [State.reg8_setReg8, hq]⟩, by simp⟩

theorem runsQuiet_setReg8 {r : Reg8} {v : State → Byte}
    (he : exec i s = straight len cost k (fun u => u.setReg8 r (v u)) s) (hr : reg8Home r ∈ but) (hpc : .pc ∉ but)
    (hir : .ir ∉ but) (hv : ∀ w, v (s.set .ir w) = v s) : RunsQuiet i s len cost k but fun t => WroteReg8 s t r (v s) :=
  runs_of_keeps he hpc hir (fun u => keeps_setReg8 u hr _) fun w p n w2 o =>
    ⟨fun a => by simp, by simp [SamePorts], by
      simpa [WroteReg8, PutReg8, hv] using wroteReg8_setReg8 (s.set .ir w) r (v s)⟩

theorem putXh_setXh (s : State) (x : Idx) (h : Half) (v : Byte) : PutXh s (s.setXh x h v) x h v :=
  ⟨by simp [State.xh, State.setXh, State.getHalf_setHalf],
    fun k hk => by simp [State.xh, State.setXh, State.getHalf_setHalf, Ne.symm hk]⟩

theorem runsQuiet_setXh {x : Idx} {h : Half} {v : State → Byte}
    (he : exec i s = straight len cost k (fun u => u.setXh x h (v u)) s) (hv : ∀ w, v (s.set .ir w) = v s) :
    RunsQuiet i s len cost k [idxReg x] fun t => PutXh s t x h (v s) :=
  runs_of_keeps he (by simp [Ne.symm (idxReg_ne_pc x)]) (by simp [Ne.symm (idxReg_ne_ir x)])
    (fun u => keeps_setXh u (by simp) h _) fun w p n w2 o =>
    ⟨fun a => by simp, by simp [SamePorts], by
      simpa [PutXh, hv] using putXh_setXh (s.set .ir w) x h (v s)⟩

/-! ## Memory -/

theorem runsStoring_writeByte {a : State → Word} {v : State → Byte}
    (he : exec i s = straight len cost k (fun u => u.writeByte (a u) (v u)) s)
    (ha : ∀ w, a (s.set .ir w) = a s) (hv : ∀ w, v (s.set .ir w) = v s) :
    RunsStoring i s len cost k (a s) (v s) [] fun _ => True :=
  runs_of_keeps he (by simp) (by simp) (fun u => keeps_writeByte u _ _) fun w p n w2 o =>
    ⟨fun b => (State.readByte_writeByte (s.set .ir w) _ b _).trans (by rw [ha, hv]; rfl), by simp [SamePorts], trivial⟩

theorem runsStoringWord_writeWord {a v : State → Word}
    (he : exec i s = straight len cost k (fun u => u.writeWord (a u) (v u)) s)
    (ha : ∀ w, a (s.set .ir w) = a s) (hv : ∀ w, v (s.set .ir w) = v s) :
    RunsStoringWord i s len cost k (a s) (v s) [] fun _ => True :=
  runs_of_keeps he (by simp) (by simp) (fun u => keeps_writeWord u _ _) fun w p n w2 o =>
    ⟨fun b => (State.readByte_writeWord (s.set .ir w) _ b _).trans (by rw [ha, hv]; rfl),
      by simp [SamePorts, State.writeWord], trivial⟩

/-! ## The stack and the exchanges -/

theorem runsStoringWord_push16 {v : State → Word} (he : exec i s = straight len cost k (fun u => u.push16 (v u)) s)
    (hv : ∀ w, v (s.set .ir w) = v s) :
    RunsStoringWord i s len cost k (s.get .sp - 2) (v s) [.sp] fun t => t.get .sp = s.get .sp - 2 :=
  runs_of_keeps he (by decide) (by decide) (fun u => keeps_push16 u (by simp) _) fun w p n w2 o =>
    ⟨fun b => (storedWord_push16 (s.set .ir w) _ b).trans (by rw [hv]; rfl),
      by simp [SamePorts, State.push16, State.writeWord], by simp [push16_get_sp]⟩

theorem runsQuiet_pop {g : Reg16} (he : exec i s = straight len cost k (fun u => u.popDone.set g u.popValue) s)
    (hg : g ≠ .pc ∧ g ≠ .ir ∧ g ≠ .sp) :
    RunsQuiet i s len cost k [.sp, g] fun t => t.get .sp = s.get .sp + 2 ∧ t.get g = wordAt s (s.get .sp) :=
  runs_of_keeps he (by simp [Ne.symm hg.1]) (by simp [Ne.symm hg.2.1])
    (fun u => keeps_popDone_set u (by simp) (by simp) _) fun w p n w2 o =>
    ⟨fun a => by simp [State.popDone], by simp [SamePorts, State.popDone],
      by simp [State.popDone, State.get_set_ne _ hg.2.2], by
        simp [State.get_set_ne _ (Ne.symm hg.1), State.get_set_ne _ (Ne.symm hg.2.1), State.popValue,
          State.readWord, wordAt]⟩

theorem runsQuiet_exchange {g h : Reg16} (he : exec i s = straight len cost k (fun u => u.exchange g h) s)
    (hg : g ≠ .pc ∧ g ≠ .ir) (hh : h ≠ .pc ∧ h ≠ .ir) (hne : g ≠ h) :
    RunsQuiet i s len cost k [g, h] fun t => t.get g = s.get h ∧ t.get h = s.get g :=
  runs_of_keeps he (by simp [Ne.symm hg.1, Ne.symm hh.1]) (by simp [Ne.symm hg.2, Ne.symm hh.2])
    (fun u => keeps_exchange u (by simp) (by simp)) fun w p n w2 o =>
    ⟨fun a => by simp [State.exchange], by simp [SamePorts, State.exchange],
      by
        simp [State.exchange, Ne.symm hg.1, Ne.symm hg.2, Ne.symm hh.1, Ne.symm hh.2, Ne.symm hne]⟩

theorem runsStoringWord_exchangeTop {g : Reg16} (he : exec i s = straight len cost k (fun u => u.exchangeTop g) s)
    (hg : g ≠ .pc ∧ g ≠ .ir) :
    RunsStoringWord i s len cost k (s.get .sp) (s.get g) [g] fun t => t.get g = wordAt s (s.get .sp) :=
  runs_of_keeps he (by simp [Ne.symm hg.1]) (by simp [Ne.symm hg.2]) (fun u => keeps_exchangeTop u (by simp))
    fun w p n w2 o =>
    ⟨fun b => (State.readByte_writeWord (s.set .ir w) _ b _).trans (by rw [State.get_set_ne s (Ne.symm hg.2)]; rfl),
      by simp [SamePorts, State.exchangeTop, State.writeWord],
      by simp [State.exchangeTop, State.get_set_ne _ (Ne.symm hg.1), State.get_set_ne _ (Ne.symm hg.2),
        State.readWord, wordAt]⟩

end

/-! ## The 8-bit loads (41_load8.md) -/

/-- Settles O25. -/
theorem loadsIntoARegister : Obligations.LoadsIntoARegister := by
  intro s
  refine ⟨fun r r2 => ?_, fun r n => ?_, fun r => ?_, ?_, ?_, fun nn => ?_, fun x r d => ?_, fun x r h => ?_⟩
  · exact runsQuiet_setReg8 (exec_ldRegReg r r2 s) (reg8Home_mem_main r) (by decide) (by decide) fun w => by simp
  · exact runsQuiet_setReg8 (exec_ldRegImm r n s) (reg8Home_mem_main r) (by decide) (by decide) fun w => rfl
  · exact runsQuiet_setReg8 (exec_ldRegMemHl r s) (reg8Home_mem_main r) (by decide) (by decide) fun w => rfl
  · exact runsQuiet_setReg8 (r := .a) (exec_ldAMemBc s) (by decide) (by decide) (by decide) fun w => rfl
  · exact runsQuiet_setReg8 (r := .a) (exec_ldAMemDe s) (by decide) (by decide) (by decide) fun w => rfl
  · exact runsQuiet_setReg8 (r := .a) (exec_ldAMemNn nn s) (by decide) (by decide) (by decide) fun w => rfl
  · exact runsQuiet_setReg8 (exec_ldRegMemIdx x r d s) (reg8Home_mem_main r) (by decide) (by decide) fun w => by simp
  · exact runsQuiet_setReg8 (exec_ldRegHalf x r h s) (reg8Home_mem_main r) (by decide) (by decide) fun w => by simp

/-- Settles O26. -/
theorem loadsIntoAnIndexHalf : Obligations.LoadsIntoAnIndexHalf := by
  intro s x h
  refine ⟨fun r => ?_, fun k => ?_, fun n => ?_⟩
  · exact runsQuiet_setXh (exec_ldHalfReg x h r s) fun w => by simp
  · exact runsQuiet_setXh (exec_ldHalfHalf x h k s) fun w => by simp
  · exact runsQuiet_setXh (exec_ldHalfImm x h n s) fun w => rfl

/-- Settles O27. -/
theorem byteStores : Obligations.ByteStores := by
  intro s
  refine ⟨fun r => ?_, fun n => ?_, ?_, ?_, fun nn => ?_, fun x r d => ?_, fun x d n => ?_⟩
  · exact runsStoring_writeByte (exec_ldMemHlReg r s) (fun w => rfl) fun w => by simp
  · exact runsStoring_writeByte (exec_ldMemHlImm n s) (fun w => rfl) fun w => rfl
  · exact runsStoring_writeByte (exec_ldMemBcA s) (fun w => rfl) fun w => rfl
  · exact runsStoring_writeByte (exec_ldMemDeA s) (fun w => rfl) fun w => rfl
  · exact runsStoring_writeByte (exec_ldMemNnA nn s) (fun w => rfl) fun w => rfl
  · exact runsStoring_writeByte (exec_ldMemIdxReg x r d s) (fun w => by simp) fun w => by simp
  · exact runsStoring_writeByte (exec_ldMemIdxImm x d n s) (fun w => by simp) fun w => rfl

/-! ## The 16-bit loads and stores (42_load16_exchange.md) -/

/-- Settles O29. -/
theorem wordLoadsAndStores : Obligations.WordLoadsAndStores := by
  intro s
  refine ⟨fun p nn => ?_, fun nn => ?_, fun p nn => ?_, ?_, fun x nn => ?_, fun x nn => ?_, fun x => ?_, fun nn => ?_,
    fun p nn => ?_, fun x nn => ?_⟩
  · exact runsQuiet_set (exec_ldPairImm p nn s) (by simp) fun w => rfl
  · exact runsQuiet_set (exec_ldHlMemNn nn s) (by simp) fun w => rfl
  · exact runsQuiet_set (exec_ldPairMemNn p nn s) (by simp) fun w => rfl
  · exact runsQuiet_set (exec_ldSpHl s) (by simp) fun w => rfl
  · exact runsQuiet_set (exec_ldIdxImm x nn s) (by simp) fun w => rfl
  · exact runsQuiet_set (exec_ldIdxMemNn x nn s) (by simp) fun w => rfl
  · exact runsQuiet_set (exec_ldSpIdx x s) (by simp) fun w => by simp
  · exact runsStoringWord_writeWord (exec_ldMemNnHl nn s) (fun w => rfl) fun w => rfl
  · exact runsStoringWord_writeWord (exec_ldMemNnPair p nn s) (fun w => rfl) fun w => by simp
  · exact runsStoringWord_writeWord (exec_ldMemNnIdx x nn s) (fun w => rfl) fun w => by simp

/-- Settles O30. -/
theorem stackInstructions : Obligations.StackInstructions := by
  intro s
  refine ⟨fun q => ?_, fun x => ?_, fun q => ?_, fun x => ?_⟩
  · exact runsStoringWord_push16 (v := fun u => u.get (pairAfReg q)) (exec_pushPair q s) fun w => by simp
  · exact runsStoringWord_push16 (v := fun u => u.get (idxReg x)) (exec_pushIdx x s) fun w => by simp
  · exact runsQuiet_pop (exec_popPair q s) ⟨by simp, by simp, by cases q <;> decide⟩
  · exact runsQuiet_pop (exec_popIdx x s) ⟨by simp, by simp, by cases x <;> decide⟩

/-- Settles O31. -/
theorem exchanges : Obligations.Exchanges := by
  intro s
  refine ⟨?_, ?_, fun x => ?_⟩
  · exact runsQuiet_exchange (exec_exDeHl s) (by decide) (by decide) (by decide)
  · exact runsStoringWord_exchangeTop (exec_exMemSpHl s) (by decide)
  · exact runsStoringWord_exchangeTop (exec_exMemSpIdx x s) (by simp)

end Sys2Proof.Machine
end

section
/-! PROOFS of 41_load8.md R517 to R520, the loads of I and R (O28), and the shape of an effect that writes A and F. -/

namespace Sys2Proof.Machine

section
variable {i : Instr} {s : State} {len cost k : Nat} {but : List Reg16} {Q : State → Prop}

theorem runsQuiet_setAF {v : State → Byte × Byte} (he : exec i s = straight len cost k (fun u => u.setAF (v u)) s)
    (hQ : ∀ w t, t.a = (v (s.set .ir w)).1 → t.f = (v (s.set .ir w)).2 → Q t) : RunsQuiet i s len cost k [.af] Q :=
  runs_of_keeps he (by decide) (by decide) (fun u => keeps_setAF u (by simp) _) fun w p n w2 o =>
    ⟨fun a => by simp, by simp [SamePorts], hQ w _ (by simp) (by simp)⟩

theorem runsQuiet_setF {v : State → Byte} (he : exec i s = straight len cost k (fun u => u.setF (v u)) s)
    (hv : ∀ w, v (s.set .ir w) = v s) (hQ : ∀ t, t.a = s.a → t.f = v s → Q t) : RunsQuiet i s len cost k [.af] Q :=
  runs_of_keeps he (by decide) (by decide) (fun u => keeps_setF u (by simp) _) fun w p n w2 o =>
    ⟨fun a => by simp, by simp [SamePorts], hQ _ (by simp) (by simp [hv])⟩

end

/-- What an instruction answers that completes `Next`. -/
theorem straight_eq (len cost k : Nat) (f : State → State) (s : State) :
    straight len cost k f s = .next ((((((f (s.refreshIf .beforeExecute k)).set .pc
      ((f (s.refreshIf .beforeExecute k)).get .pc + BitVec.ofNat 16 len)).tick cost).refreshIf .afterExecute k).reporting
      (some ⟨⟨len, cost, none, k⟩, .next⟩))) := rfl

theorem flagsAre_sz53 (v : Byte) (h pv n c : Bool) : FlagsAre (flagsSz53 v h pv n c) (v.getLsbD 7) (v == 0)
    (v.getLsbD 5) h (v.getLsbD 3) pv n c := flagsAre_packFlags ..

/-- F after `LD A,I` or `LD A,R`, whose A is read back from the state it leaves. -/
theorem flagsAre_ldAIr {s t : State} {v : Byte} (ha : t.a = v) (hf : t.f = ldAIrFlags v s.f s.iff2) :
    FlagsAre t.f (t.a.getLsbD 7) (t.a == 0) (t.a.getLsbD 5) false (t.a.getLsbD 3) s.iff2 false (s.f.getLsbD 0) := by
  rw [ha, hf]
  exact flagsAre_sz53 ..

/-- `LD A,I` reads I, which no refresh changes. -/
theorem ldAI_value {s t : State} (h : exec .ldAI s = .next t) : t.a = s.i := by
  rw [exec_ldAI, execLdAI, straight_eq] at h
  obtain rfl := Host.Outcome.next.inj h
  cases ho : s.params.refreshOrder <;> simp [State.refreshIf, ho, State.refresh, State.setLo, State.i]

/-- `LD A,R` reads R before its own refresh, or after it. -/
theorem ldAR_value {s t : State} (h : exec .ldAR s = .next t) :
    t.a = if s.params.refreshOrder = .afterExecute then s.r else t.r := by
  rw [exec_ldAR, execLdAR, straight_eq] at h
  obtain rfl := Host.Outcome.next.inj h
  cases ho : s.params.refreshOrder with
  | afterExecute => simp [State.refreshIf, ho, State.refresh, State.setLo]
  | beforeExecute => simp [State.refreshIf, ho, State.refresh, State.r]

/-- A run and one more fact about the state it ends in. -/
theorem RunsQuiet.and {i : Instr} {s : State} {len cost k : Nat} {but : List Reg16} {P Q : State → Prop}
    (h : RunsQuiet i s len cost k but Q) (hP : ∀ t, exec i s = .next t → P t) :
    RunsQuiet i s len cost k but fun t => P t ∧ Q t := by
  obtain ⟨t, ht, hpc, hclock, hr, hctl, hregs, hmem, hports, hQ⟩ := h
  exact ⟨t, ht, hpc, hclock, hr, hctl, hregs, hmem, hports, hP t ht, hQ⟩

/-- The state a load of I or R from A leaves: IR holds `w` after the effect and the refreshes. -/
def State.loadedIr (s : State) (w : Word) : State :=
  ((((s.set .pc (s.get .pc + 2)).tick 9).set .ir w).reporting (some ⟨⟨2, 9, none, 2⟩, .next⟩))

@[simp] theorem loadedIr_i (s : State) (w : Word) : (s.loadedIr w).i = hi w := by simp [State.loadedIr, State.i]

@[simp] theorem loadedIr_r (s : State) (w : Word) : (s.loadedIr w).r = lo w := by simp [State.loadedIr, State.r]

theorem loadedIr_frame (s : State) (w : Word) : (s.loadedIr w).get .pc = s.get .pc + 2 ∧
    (s.loadedIr w).clock = s.clock + 9 ∧ SameControl s (s.loadedIr w) ∧ SameRegs s (s.loadedIr w) [.pc, .ir] ∧
    SameBytes s (s.loadedIr w) ∧ SamePorts s (s.loadedIr w) := by
  refine ⟨rfl, rfl, ?_, fun g hg => ?_, fun a => rfl, rfl, rfl⟩
  · simp [SameControl, State.loadedIr]
  · simp only [List.mem_cons, List.not_mem_nil, or_false, not_or] at hg
    obtain ⟨hpc, hir⟩ := hg
    simp [State.loadedIr, State.get_set_ne _ (Ne.symm hpc), State.get_set_ne _ (Ne.symm hir)]

/-- `LD I,A`: R is refreshed by two before or after, and I is A. -/
theorem exec_ldIA_eq (s : State) : exec .ldIA s = .next (s.loadedIr (w16 s.a (s.refresh 2).r)) := by
  rw [exec_ldIA, execLdIA, straight_eq]
  cases ho : s.params.refreshOrder <;>
    simp [State.refreshIf, ho, State.refresh, State.setHi, State.setLo, State.loadedIr, State.r, State.a] <;> rfl

/-- `LD R,A`: R is A, refreshed by two if the refresh comes after. -/
theorem exec_ldRA_eq (s : State) : exec .ldRA s = .next (s.loadedIr (w16 s.i
    (if s.params.refreshOrder = .afterExecute then ((s.setLo .ir s.a).refresh 2).r else s.a))) := by
  rw [exec_ldRA, execLdRA, straight_eq]
  cases ho : s.params.refreshOrder <;>
    simp [State.refreshIf, ho, State.refresh, State.setLo, State.loadedIr, State.r, State.a, State.i] <;> rfl

/-- Settles O28. -/
theorem loadsOfIAndR : Obligations.LoadsOfIAndR := by
  intro s
  refine ⟨?ldAI, ?ldAR, ?ldIA, ?ldRA⟩
  case ldAI =>
    exact (runsQuiet_setAF (exec_ldAI s) fun w t ha hf => flagsAre_ldAIr ha hf).and fun t => ldAI_value
  case ldAR =>
    exact (runsQuiet_setAF (exec_ldAR s) fun w t ha hf => flagsAre_ldAIr ha hf).and fun t => ldAR_value
  case ldIA =>
    obtain ⟨hpc, hclock, hctl, hregs, hmem, hports⟩ := loadedIr_frame s (w16 s.a (s.refresh 2).r)
    obtain ⟨-, hbit, hmod⟩ := State.refreshed_refresh s 2
    exact ⟨_, exec_ldIA_eq s, hpc, hclock, by simp, by simpa using hbit, by simpa using hmod, hctl, hregs, hmem, hports⟩
  case ldRA =>
    obtain ⟨hpc, hclock, hctl, hregs, hmem, hports⟩ := loadedIr_frame s (w16 s.i
      (if s.params.refreshOrder = .afterExecute then ((s.setLo .ir s.a).refresh 2).r else s.a))
    obtain ⟨-, hbit, hmod⟩ := State.refreshed_refresh (s.setLo .ir s.a) 2
    have hr : (s.setLo .ir s.a).r = s.a := by simp [State.setLo, State.r]
    rw [hr] at hbit hmod
    refine ⟨_, exec_ldRA_eq s, hpc, hclock, by simp, ?bit, ?mod, hctl, hregs, hmem, hports⟩
    case bit =>
      rw [loadedIr_r, lo_w16]
      split
      · exact hbit
      · rfl
    case mod =>
      rw [loadedIr_r, lo_w16]
      split
      · exact hmod
      · rfl

end Sys2Proof.Machine
end

section
/-! PROOFS of 40_step_and_flags.md section 3 and 44_alu8.md: the results and flags of the 8-bit helpers as numbers
(O45), and the accumulator operations (O37 to O39, O44). -/

namespace Sys2Proof
open Machine

/-! ## Signed numbers -/

/-- The signed value of the number `x` below `2 * m`. -/
def signed (m x : Nat) : Int := if x < m then x else x - 2 * m

theorem toInt_byte (v : Byte) : v.toInt = signed 128 v.toNat := by
  rw [BitVec.toInt_eq_toNat_cond, signed]
  split_ifs <;> first | rfl | omega

theorem toInt_word (v : Word) : v.toInt = signed 32768 v.toNat := by
  rw [BitVec.toInt_eq_toNat_cond, signed]
  split_ifs <;> first | rfl | omega

theorem getLsbD_seven (v : Byte) : v.getLsbD 7 = decide (128 ≤ v.toNat) := BitVec.msb_eq_decide v

theorem getLsbD_fifteen (v : Word) : v.getLsbD 15 = decide (32768 ≤ v.toNat) := BitVec.msb_eq_decide v

/-- Signed overflow of a sum `r` modulo `2 * m`: the operands have one sign and the sum the other. -/
theorem overflow_add {m x y c r : Nat} (hx : x < 2 * m) (hy : y < 2 * m) (hr : r < 2 * m) (hc : c ≤ 1)
    (hsum : r = x + y + c ∨ r + 2 * m = x + y + c) :
    (decide (m ≤ x) == decide (m ≤ y) && decide (m ≤ r) != decide (m ≤ x)) =
      decide (signed m x + signed m y + c < -m ∨ m - 1 < signed m x + signed m y + c) := by
  unfold signed
  rw [Bool.eq_iff_iff]
  by_cases h1 : m ≤ x <;> by_cases h2 : m ≤ y <;> by_cases h3 : m ≤ r <;>
    simp [h1, h2, h3, Nat.not_lt.mpr, Nat.lt_of_not_le] <;> omega

/-- Signed overflow of a difference `r` modulo `2 * m`: the operands have different signs, and the difference has not
the sign of the first. -/
theorem overflow_sub {m x y c r : Nat} (hx : x < 2 * m) (hy : y < 2 * m) (hr : r < 2 * m) (hc : c ≤ 1)
    (hdiff : r + y + c = x ∨ r + y + c = x + 2 * m) :
    (decide (m ≤ x) != decide (m ≤ y) && decide (m ≤ r) == decide (m ≤ y)) =
      decide (signed m x - signed m y - c < -m ∨ m - 1 < signed m x - signed m y - c) := by
  unfold signed
  rw [Bool.eq_iff_iff]
  by_cases h1 : m ≤ x <;> by_cases h2 : m ≤ y <;> by_cases h3 : m ≤ r <;>
    simp [h1, h2, h3, Nat.not_lt.mpr, Nat.lt_of_not_le] <;> omega

/-! ## The 8-bit helpers (R410 to R415) -/

theorem toNat_add8 (a b : Byte) (c : Bool) : (add8 a b c).1.toNat = (a.toNat + b.toNat + c.toNat) % 256 :=
  BitVec.toNat_ofNat _ 8

theorem toNat_sub8 (a b : Byte) (c : Bool) : (sub8 a b c).1.toNat = (a.toNat + 512 - b.toNat - c.toNat) % 256 := by
  have hc := Bool.toNat_le c
  have := b.isLt
  simp only [sub8, bit, BitVec.toNat_ofInt]
  omega

/-- A difference without borrow is the difference of bytes. -/
theorem sub8_fst (a b : Byte) : (sub8 a b false).1 = a - b := by
  refine BitVec.eq_of_toNat_eq ?_
  rw [toNat_sub8, BitVec.toNat_sub]
  have := b.isLt
  simp only [Bool.toNat_false]
  omega

theorem add8_overflow (a b : Byte) (c : Bool) :
    (a.getLsbD 7 == b.getLsbD 7 && (add8 a b c).1.getLsbD 7 != a.getLsbD 7) = outOf8 (a.toInt + b.toInt + c.toNat) := by
  have hc := Bool.toNat_le c
  have ha := a.isLt
  have hb := b.isLt
  simp only [getLsbD_seven, toInt_byte, toNat_add8]
  exact overflow_add ha hb (by omega) hc (by omega)

theorem sub8_overflow (a b : Byte) (c : Bool) :
    (a.getLsbD 7 != b.getLsbD 7 && (sub8 a b c).1.getLsbD 7 == b.getLsbD 7) = outOf8 (a.toInt - b.toInt - c.toNat) := by
  have hc := Bool.toNat_le c
  have ha := a.isLt
  have hb := b.isLt
  simp only [getLsbD_seven, toInt_byte, toNat_sub8]
  exact overflow_sub ha hb (by omega) hc (by omega)

theorem flagsAre_add8 (a b : Byte) (c : Bool) :
    let r := add8 a b c
    FlagsAre r.2 (r.1.getLsbD 7) (r.1 == 0) (r.1.getLsbD 5) (decide (16 ≤ a.toNat % 16 + b.toNat % 16 + c.toNat))
      (r.1.getLsbD 3) (outOf8 (a.toInt + b.toInt + c.toNat)) false (decide (256 ≤ a.toNat + b.toNat + c.toNat)) := by
  rw [← add8_overflow]
  exact flagsAre_packFlags ..

theorem flagsAre_sub8 (a b : Byte) (c : Bool) :
    let r := sub8 a b c
    FlagsAre r.2 (r.1.getLsbD 7) (r.1 == 0) (r.1.getLsbD 5) (decide (a.toNat % 16 < b.toNat % 16 + c.toNat))
      (r.1.getLsbD 3) (outOf8 (a.toInt - b.toInt - c.toNat)) true (decide (a.toNat < b.toNat + c.toNat)) := by
  have hh : decide (((a.toNat % 16 : Nat) : Int) - ((b.toNat % 16 : Nat) : Int) - bit c < 0) =
      decide (a.toNat % 16 < b.toNat % 16 + c.toNat) := decide_eq_decide.mpr (by unfold bit; omega)
  have hcarry : decide ((a.toNat : Int) - b.toNat - bit c < 0) = decide (a.toNat < b.toNat + c.toNat) :=
    decide_eq_decide.mpr (by unfold bit; omega)
  rw [← sub8_overflow, ← hh, ← hcarry]
  exact flagsAre_packFlags ..

theorem beq_zero_sub (a b : Byte) : (a - b == 0) = (a == b) := by
  rw [Bool.eq_iff_iff, beq_iff_eq, beq_iff_eq, sub_eq_zero]

theorem flagsAre_cp8 (a b : Byte) : FlagsAre (cp8 a b) ((a - b).getLsbD 7) (a == b) (b.getLsbD 5)
    (decide (a.toNat % 16 < b.toNat % 16)) (b.getLsbD 3) (outOf8 (a.toInt - b.toInt)) true
    (decide (a.toNat < b.toNat)) := by
  obtain ⟨hS, hZ, -, hH, -, hPV, hN, hC⟩ := flagsAre_sub8 a b false
  rw [sub8_fst] at hS hZ
  rw [beq_zero_sub] at hZ
  have hcast : a.toInt - b.toInt - (false.toNat : Nat) = a.toInt - b.toInt := Int.sub_zero _
  rw [← hS, ← hZ, ← hcast, ← hPV, ← hN]
  simp only [Bool.toNat_false, Nat.add_zero] at hH hC
  rw [← hH, ← hC]
  exact flagsAre_packFlags ..

theorem inc8_overflow (v : Byte) : (v == 0x7F#8) = outOf8 (v.toInt + 1) := by
  rw [Bool.eq_iff_iff, beq_iff_eq, ← BitVec.toNat_inj, outOf8, decide_eq_true_eq, toInt_byte, signed]
  have := v.isLt
  simp only [BitVec.toNat_ofNat]
  split <;> omega

theorem dec8_overflow (v : Byte) : (v == 0x80#8) = outOf8 (v.toInt - 1) := by
  rw [Bool.eq_iff_iff, beq_iff_eq, ← BitVec.toNat_inj, outOf8, decide_eq_true_eq, toInt_byte, signed]
  have := v.isLt
  simp only [BitVec.toNat_ofNat]
  split <;> omega

/-- Settles O45: the flags are those of the two helpers, read off one by one. -/
theorem arithmeticHelperLaws : Obligations.ArithmeticHelperLaws := by
  refine ⟨fun v1 v2 => ?roundTrip, fun v1 v2 => ⟨?add, ?sub⟩, fun v1 v2 c => ?carry⟩
  case roundTrip =>
    refine BitVec.eq_of_toNat_eq ?_
    have := v1.isLt
    have := v2.isLt
    rw [toNat_sub8, toNat_add8]
    simp only [Bool.toNat_false]
    omega
  case add =>
    obtain ⟨-, -, -, hH, -, hPV, -, hC⟩ := flagsAre_add8 v1 v2 false
    exact ⟨hC, hH, by simpa using hPV⟩
  case sub =>
    obtain ⟨-, -, -, hH, -, hPV, -, hC⟩ := flagsAre_sub8 v1 v2 false
    exact ⟨hC, hH, by simpa using hPV⟩
  case carry =>
    obtain ⟨-, -, -, -, -, hadd, -⟩ := flagsAre_add8 v1 v2 c
    obtain ⟨-, -, -, -, -, hsub, -⟩ := flagsAre_sub8 v1 v2 c
    exact ⟨hadd, hsub⟩

namespace Machine

/-! ## The accumulator operations in their five forms (R800) -/

/-- An operation on A in its five forms, each of which runs `accumulate` on its operand. -/
theorem aluForms {s : State} {P : Byte → State → Prop} (op : AluOp) {reg : Reg8 → Instr} {memHl : Instr}
    {imm : Byte → Instr} {memIdx : Idx → Byte → Instr} {half : Idx → Half → Instr}
    (hP : ∀ v t, t.a = (alu8 op s.a v s.f).1 → t.f = (alu8 op s.a v s.f).2 → P v t)
    (hreg : ∀ r, exec (reg r) s = straight 1 4 1 (fun u => u.accumulate op (u.reg8 r)) s)
    (hmemHl : exec memHl s = straight 1 7 1 (fun u => u.accumulate op (u.readByte (u.get .hl))) s)
    (himm : ∀ n, exec (imm n) s = straight 2 7 1 (fun u => u.accumulate op n) s)
    (hmemIdx : ∀ x d, exec (memIdx x d) s = straight 3 19 2 (fun u => u.accumulate op (u.readByte (u.ea x d))) s)
    (hhalf : ∀ x h, exec (half x h) s = straight 2 8 2 (fun u => u.accumulate op (u.xh x h)) s) :
    AluForms s P reg memHl imm memIdx half := by
  refine ⟨fun r => runsQuiet_setAF (hreg r) fun w t ha hf => hP _ t ?_ ?_,
    runsQuiet_setAF hmemHl fun w t ha hf => hP _ t ha hf,
    fun n => runsQuiet_setAF (himm n) fun w t ha hf => hP _ t ha hf,
    fun x d => runsQuiet_setAF (hmemIdx x d) fun w t ha hf => hP _ t ?_ ?_,
    fun x h => runsQuiet_setAF (hhalf x h) fun w t ha hf => hP _ t ?_ ?_⟩
  · simpa using ha
  · simpa using hf
  · simpa [State.ea] using ha
  · simpa [State.ea] using hf
  · simpa using ha
  · simpa using hf

theorem added_of {s t : State} {v : Byte} {c : Bool} (ha : t.a = (add8 s.a v c).1) (hf : t.f = (add8 s.a v c).2) :
    Added s c v t := by
  rw [Added, ha, hf]
  exact ⟨toNat_add8 s.a v c, flagsAre_add8 s.a v c⟩

theorem subtracted_of {m v : Byte} {c : Bool} {t : State} (ha : t.a = (sub8 m v c).1) (hf : t.f = (sub8 m v c).2) :
    Subtracted m c v t := by
  rw [Subtracted, ha, hf]
  exact ⟨toNat_sub8 m v c, flagsAre_sub8 m v c⟩

theorem compared_of {s t : State} {v : Byte} (ha : t.a = s.a) (hf : t.f = cp8 s.a v) : Compared s v t := by
  rw [Compared, hf]
  exact ⟨ha, flagsAre_cp8 s.a v⟩

theorem logicResult_of {res : Byte} {h : Bool} {t : State} (ha : t.a = res)
    (hf : t.f = flagsSz53 res h (parity res) false false) : LogicResult res h t := by
  rw [LogicResult, hf]
  exact ⟨ha, flagsAre_sz53 ..⟩

/-- Settles O37. -/
theorem addAndAdc : Obligations.AddAndAdc := fun s =>
  ⟨aluForms .add (fun _ _ => added_of) (exec_addAReg · s) (exec_addAMemHl s) (exec_addAImm · s) (exec_addAMemIdx · · s)
    (exec_addAHalf · · s),
  aluForms .adc (fun _ _ => added_of) (exec_adcAReg · s) (exec_adcAMemHl s) (exec_adcAImm · s) (exec_adcAMemIdx · · s)
    (exec_adcAHalf · · s)⟩

/-- Settles O38. -/
theorem subSbcAndCp : Obligations.SubSbcAndCp := fun s =>
  ⟨aluForms .sub (fun _ _ => subtracted_of) (exec_subAReg · s) (exec_subAMemHl s) (exec_subAImm · s)
    (exec_subAMemIdx · · s) (exec_subAHalf · · s),
  aluForms .sbc (fun _ _ => subtracted_of) (exec_sbcAReg · s) (exec_sbcAMemHl s) (exec_sbcAImm · s)
    (exec_sbcAMemIdx · · s) (exec_sbcAHalf · · s),
  aluForms .cp (fun _ _ => compared_of) (exec_cpAReg · s) (exec_cpAMemHl s) (exec_cpAImm · s) (exec_cpAMemIdx · · s)
    (exec_cpAHalf · · s)⟩

/-- Settles O39. -/
theorem logicalOperations : Obligations.LogicalOperations := fun s =>
  ⟨aluForms .and (fun _ _ => logicResult_of) (exec_andAReg · s) (exec_andAMemHl s) (exec_andAImm · s)
    (exec_andAMemIdx · · s) (exec_andAHalf · · s),
  aluForms .xor (fun _ _ => logicResult_of) (exec_xorAReg · s) (exec_xorAMemHl s) (exec_xorAImm · s)
    (exec_xorAMemIdx · · s) (exec_xorAHalf · · s),
  aluForms .or (fun _ _ => logicResult_of) (exec_orAReg · s) (exec_orAMemHl s) (exec_orAImm · s) (exec_orAMemIdx · · s)
    (exec_orAHalf · · s)⟩

/-! ## A and the carry (R841 to R844) -/

/-- Settles O44. -/
theorem accumulatorAndCarryOperations : Obligations.AccumulatorAndCarryOperations := by
  intro s
  refine ⟨?cpl, fun z => ?neg, ?ccf, ?scf⟩
  case cpl => exact runsQuiet_setAF (exec_cpl s) fun w t ha hf => ⟨ha, by rw [ha, hf]; exact flagsAre_packFlags ..⟩
  case neg => exact runsQuiet_setAF (exec_neg z s) fun w t ha hf => subtracted_of ha hf
  case ccf =>
    exact runsQuiet_setF (exec_ccf s) (fun w => rfl) fun t ha hf => ⟨ha, by rw [hf]; exact flagsAre_packFlags ..⟩
  case scf =>
    exact runsQuiet_setF (exec_scf s) (fun w => rfl) fun t ha hf => ⟨ha, by rw [hf]; exact flagsAre_packFlags ..⟩

end Machine
end Sys2Proof
end

section
/-! PROOFS of 44_alu8.md section 3, 46_rotate_bit.md and of the shapes that write a byte and F (O40, O49 to O54). -/

namespace Sys2Proof.Machine

/-! ## A byte and F written -/

@[simp] theorem setF_xh (s : State) (v : Byte) (x : Idx) (h : Half) : (s.setF v).xh x h = s.xh x h := by cases x <;> rfl

section
variable {i : Instr} {s : State} {len cost k : Nat} {Q : State → Prop}

theorem runsQuiet_putReg8 {r : Reg8} {v : State → Byte × Byte}
    (he : exec i s = straight len cost k (fun u => u.putReg8 r (v u)) s) (hv : ∀ w, v (s.set .ir w) = v s)
    (hQ : ∀ t, PutReg8 s t r (v s).1 → t.f = (v s).2 → Q t) :
    RunsQuiet i s len cost k [.af, .bc, .de, .hl] Q :=
  runs_of_keeps he (by decide) (by decide) (fun u => keeps_putReg8 u (by decide) (reg8Home_mem_main r) _)
    fun w p n w2 o => ⟨fun a => by simp [State.putReg8], by simp [SamePorts, State.putReg8], hQ _
      (by simpa [PutReg8, State.putReg8, hv] using (wroteReg8_setReg8 (s.set .ir w) r (v s).1).1)
      (by simp [State.putReg8, hv])⟩

theorem runsQuiet_putXh {x : Idx} {h : Half} {v : State → Byte × Byte}
    (he : exec i s = straight len cost k (fun u => u.putXh x h (v u)) s) (hv : ∀ w, v (s.set .ir w) = v s)
    (hQ : ∀ t, PutXh s t x h (v s).1 → t.a = s.a → t.f = (v s).2 → Q t) :
    RunsQuiet i s len cost k [.af, idxReg x] Q :=
  runs_of_keeps he (by simp [Ne.symm (idxReg_ne_pc x)]) (by simp [Ne.symm (idxReg_ne_ir x)])
    (fun u => keeps_putXh u (by simp) (by simp) h _)
    fun w p n w2 o => ⟨fun a => by simp [State.putXh], by simp [SamePorts, State.putXh], hQ _
      (by simpa [PutXh, State.putXh, hv] using putXh_setXh (s.set .ir w) x h (v s).1)
      (by simp [State.putXh]) (by simp [State.putXh, hv])⟩

theorem runsStoring_putByte {a : State → Word} {v : State → Byte × Byte}
    (he : exec i s = straight len cost k (fun u => u.putByte (a u) (v u)) s) (ha : ∀ w, a (s.set .ir w) = a s)
    (hv : ∀ w, v (s.set .ir w) = v s) (hQ : ∀ t, t.a = s.a → t.f = (v s).2 → Q t) :
    RunsStoring i s len cost k (a s) (v s).1 [.af] Q :=
  runs_of_keeps he (by decide) (by decide) (fun u => keeps_putByte u (by simp) _ _)
    fun w p n w2 o => ⟨fun b => (State.readByte_writeByte (s.set .ir w) _ b _).trans (by rw [ha, hv]; rfl),
      by simp [SamePorts, State.putByte], hQ _ (by simp [State.putByte]) (by simp [State.putByte, hv])⟩

theorem runsStoring_writeCopy {a : State → Word} {v : State → Byte} {r : Reg8}
    (he : exec i s = straight len cost k (fun u => u.writeCopy (a u) r (v u)) s) (ha : ∀ w, a (s.set .ir w) = a s)
    (hv : ∀ w, v (s.set .ir w) = v s) :
    RunsStoring i s len cost k (a s) (v s) [.af, .bc, .de, .hl] fun t => WroteReg8 s t r (v s) :=
  runs_of_keeps he (by decide) (by decide) (fun u => keeps_writeCopy u (reg8Home_mem_main r) _ _)
    fun w p n w2 o => ⟨fun b => by
        rw [State.reporting_readByte, State.set_readByte, State.tick_readByte, State.set_readByte, State.writeCopy,
          State.setReg8_readByte]
        exact (State.readByte_writeByte (s.set .ir w) _ b _).trans (by rw [ha, hv]; rfl),
      by simp [SamePorts, State.writeCopy], by
      simpa [WroteReg8, PutReg8, State.writeCopy, hv] using
        wroteReg8_setReg8 ((s.set .ir w).writeByte (a (s.set .ir w)) (v s)) r (v s)⟩

theorem runsStoring_writeCopy_setF {a : State → Word} {v : State → Byte × Byte} {r : Reg8}
    (he : exec i s = straight len cost k (fun u => (u.writeCopy (a u) r (v u).1).setF (v u).2) s)
    (ha : ∀ w, a (s.set .ir w) = a s) (hv : ∀ w, v (s.set .ir w) = v s)
    (hQ : ∀ t, PutReg8 s t r (v s).1 → t.f = (v s).2 → Q t) :
    RunsStoring i s len cost k (a s) (v s).1 [.af, .bc, .de, .hl] Q :=
  runs_of_keeps he (by decide) (by decide)
    (fun u => (keeps_writeCopy u (reg8Home_mem_main r) _ _).setF (by simp) _)
    fun w p n w2 o => ⟨fun b => by
        rw [State.reporting_readByte, State.set_readByte, State.tick_readByte, State.set_readByte, State.setF_readByte,
          State.writeCopy, State.setReg8_readByte]
        exact (State.readByte_writeByte (s.set .ir w) _ b _).trans (by rw [ha, hv]; rfl),
      by simp [SamePorts, State.writeCopy], hQ _
      (by simpa [PutReg8, State.writeCopy, hv] using
        (wroteReg8_setReg8 ((s.set .ir w).writeByte (a (s.set .ir w)) (v s).1) r (v s).1).1)
      (by simp [hv])⟩

end

/-! ## INC and DEC of a byte (R830, R831) -/

theorem incFlags_of {s t : State} {v : Byte} (hf : t.f = (inc8 v s.f).2) : IncFlags s v t := by
  rw [IncFlags, hf, ← inc8_overflow]
  exact flagsAre_packFlags ..

theorem decFlags_of {s t : State} {v : Byte} (hf : t.f = (dec8 v s.f).2) : DecFlags s v t := by
  rw [DecFlags, hf, ← dec8_overflow]
  exact flagsAre_packFlags ..

/-- Settles O40. -/
theorem incrementAndDecrement8 : Obligations.IncrementAndDecrement8 := by
  intro s
  refine ⟨fun r => ?_, ?_, fun x d => ?_, fun x h => ?_, fun r => ?_, ?_, fun x d => ?_, fun x h => ?_⟩
  · exact runsQuiet_putReg8 (exec_incReg r s) (fun w => by simp) fun t hp hf => ⟨hp, incFlags_of hf⟩
  · exact runsStoring_putByte (exec_incMemHl s) (fun w => rfl) (fun w => rfl) fun t ha hf => ⟨ha, incFlags_of hf⟩
  · exact runsStoring_putByte (exec_incMemIdx x d s) (fun w => by simp) (fun w => by simp)
      fun t ha hf => ⟨ha, incFlags_of hf⟩
  · exact runsQuiet_putXh (exec_incHalf x h s) (fun w => by simp) fun t hp ha hf => ⟨hp, ha, incFlags_of hf⟩
  · exact runsQuiet_putReg8 (exec_decReg r s) (fun w => by simp) fun t hp hf => ⟨hp, decFlags_of hf⟩
  · exact runsStoring_putByte (exec_decMemHl s) (fun w => rfl) (fun w => rfl) fun t ha hf => ⟨ha, decFlags_of hf⟩
  · exact runsStoring_putByte (exec_decMemIdx x d s) (fun w => by simp) (fun w => by simp)
      fun t ha hf => ⟨ha, decFlags_of hf⟩
  · exact runsQuiet_putXh (exec_decHalf x h s) (fun w => by simp) fun t hp ha hf => ⟨hp, ha, decFlags_of hf⟩

/-! ## Rotates and shifts (R420 to R422) -/

/-- The number of a byte made of seven bits above one, and of one bit above seven. -/
theorem toNat_append_bit (x : BitVec 7) (b : BitVec 1) : (x ++ b : Byte).toNat = 2 * x.toNat + b.toNat := by
  have e : (x ++ b : Byte).toNat = x.toNat <<< 1 ||| b.toNat := BitVec.toNat_append x b
  rw [e, ← Nat.shiftLeft_add_eq_or_of_lt b.isLt, Nat.shiftLeft_eq, Nat.mul_comm]

theorem toNat_bit_append (b : BitVec 1) (x : BitVec 7) : (b ++ x : Byte).toNat = 128 * b.toNat + x.toNat := by
  have e : (b ++ x : Byte).toNat = b.toNat <<< 7 ||| x.toNat := BitVec.toNat_append b x
  rw [e, ← Nat.shiftLeft_add_eq_or_of_lt x.isLt, Nat.shiftLeft_eq, Nat.mul_comm]

theorem toNat_lowSeven (v : Byte) : (v.extractLsb' 0 7).toNat = v.toNat % 128 := by
  simp [BitVec.extractLsb'_toNat]

theorem toNat_highSeven (v : Byte) : (v.extractLsb' 1 7).toNat = v.toNat / 2 := by
  have := v.isLt
  simp only [BitVec.extractLsb'_toNat, Nat.shiftRight_eq_div_pow]
  omega

theorem toNat_bitSeven (v : Byte) : (v.getLsbD 7).toNat = v.toNat / 128 := by
  have := v.isLt
  rw [getLsbD_seven]
  by_cases h : 128 ≤ v.toNat <;> simp [h] <;> omega

theorem toNat_bitZero (v : Byte) : (v.getLsbD 0).toNat = v.toNat % 2 := by
  rw [BitVec.getLsbD, Nat.testBit_zero]
  rcases Nat.mod_two_eq_zero_or_one v.toNat with h | h <;> simp [h]

theorem rot_fst (op : RotOp) (v : Byte) (c : Bool) : (rot op v c).1 = BitVec.ofNat 8 (rotated op v.toNat c.toNat) := by
  have hv := v.isLt
  have hc := Bool.toNat_le c
  refine BitVec.eq_of_toNat_eq ?_
  rw [BitVec.toNat_ofNat]
  cases op <;>
    simp only [rot, rotated, toNat_append_bit, toNat_bit_append, toNat_lowSeven, toNat_highSeven, BitVec.toNat_ofBool,
      toNat_bitSeven, toNat_bitZero, BitVec.toNat_ofNat] <;>
    omega

theorem rot_snd (op : RotOp) (v : Byte) (c : Bool) : (rot op v c).2 = rotatedOut op v := by cases op <;> rfl

theorem rotCb_fst (op : RotOp) (s : State) (v : Byte) : (rotCb op v s.f).1 = rotatedByte op s v := rot_fst ..

theorem rotFlags_of {op : RotOp} {s t : State} {v : Byte} (hf : t.f = (rotCb op v s.f).2) : RotFlags op s v t := by
  rw [RotFlags, hf, ← rotCb_fst, ← rot_snd op v (fC s.f)]
  exact flagsAre_packFlags ..

theorem rotatedA_of {op : RotOp} {s t : State} (ha : t.a = (rotA op s.a s.f).1) (hf : t.f = (rotA op s.a s.f).2) :
    RotatedA op s t := by
  refine ⟨ha.trans (rot_fst ..), ?_⟩
  rw [ha, hf, ← rot_snd op s.a (fC s.f)]
  exact flagsAre_packFlags ..

/-- Settles O49. -/
theorem accumulatorRotates : Obligations.AccumulatorRotates := fun s =>
  ⟨runsQuiet_setAF (exec_rlca s) fun _ _ => rotatedA_of, runsQuiet_setAF (exec_rrca s) fun _ _ => rotatedA_of,
    runsQuiet_setAF (exec_rla s) fun _ _ => rotatedA_of, runsQuiet_setAF (exec_rra s) fun _ _ => rotatedA_of⟩

/-- A rotate or shift in its four forms, each of which runs `rotCb` on its operand. -/
theorem rotForms {s : State} (op : RotOp) {reg : Reg8 → Instr} {memHl : Instr} {memIdx : Idx → Byte → Instr}
    {copy : Idx → Byte → Reg8 → Instr}
    (hreg : ∀ r, exec (reg r) s = straight 2 8 2 (fun u => u.putReg8 r (rotCb op (u.reg8 r) u.f)) s)
    (hmemHl : exec memHl s = straight 2 15 2 (fun u => u.rotMem op (u.get .hl)) s)
    (hmemIdx : ∀ x d, exec (memIdx x d) s = straight 4 23 2 (fun u => u.rotMem op (u.ea x d)) s)
    (hcopy : ∀ x d r, exec (copy x d r) s = straight 4 23 2 (fun u => u.rotMemCopy op (u.ea x d) r) s) :
    RotForms s op reg memHl memIdx copy := by
  refine ⟨fun r => ?_, ?_, fun x d => ?_, fun x d r => ?_⟩
  · exact runsQuiet_putReg8 (hreg r) (fun w => by simp) fun t hp hf => ⟨rotCb_fst op s _ ▸ hp, rotFlags_of hf⟩
  · rw [← rotCb_fst]
    exact runsStoring_putByte (a := fun u => u.get .hl) hmemHl (fun w => rfl) (fun w => rfl)
      fun t ha hf => ⟨ha, rotFlags_of hf⟩
  · intro a
    rw [← rotCb_fst]
    exact runsStoring_putByte (a := fun u => u.ea x d) (hmemIdx x d) (fun w => by simp) (fun w => by simp)
      fun t ha hf => ⟨ha, rotFlags_of hf⟩
  · intro a
    rw [← rotCb_fst]
    exact runsStoring_writeCopy_setF (a := fun u => u.ea x d) (hcopy x d r) (fun w => by simp) (fun w => by simp)
      fun t hp hf => ⟨hp, rotFlags_of hf⟩

/-- Settles O50. -/
theorem rotatesOfBytes : Obligations.RotatesOfBytes := fun s =>
  ⟨rotForms .rlc (exec_rlcReg · s) (exec_rlcMemHl s) (exec_rlcMemIdx · · s) (exec_rlcMemIdxCopy · · · s),
    rotForms .rrc (exec_rrcReg · s) (exec_rrcMemHl s) (exec_rrcMemIdx · · s) (exec_rrcMemIdxCopy · · · s),
    rotForms .rl (exec_rlReg · s) (exec_rlMemHl s) (exec_rlMemIdx · · s) (exec_rlMemIdxCopy · · · s),
    rotForms .rr (exec_rrReg · s) (exec_rrMemHl s) (exec_rrMemIdx · · s) (exec_rrMemIdxCopy · · · s)⟩

/-- Settles O51. -/
theorem shiftsOfBytes : Obligations.ShiftsOfBytes := fun s =>
  ⟨rotForms .sla (exec_slaReg · s) (exec_slaMemHl s) (exec_slaMemIdx · · s) (exec_slaMemIdxCopy · · · s),
    rotForms .sra (exec_sraReg · s) (exec_sraMemHl s) (exec_sraMemIdx · · s) (exec_sraMemIdxCopy · · · s),
    rotForms .sll (exec_sllReg · s) (exec_sllMemHl s) (exec_sllMemIdx · · s) (exec_sllMemIdxCopy · · · s),
    rotForms .srl (exec_srlReg · s) (exec_srlMemHl s) (exec_srlMemIdx · · s) (exec_srlMemIdxCopy · · · s)⟩

end Sys2Proof.Machine
end

section
/-! PROOFS of 46_rotate_bit.md sections 3 and 4: the bit operations and the digit rotates (O52 to O54). -/

namespace Sys2Proof.Machine

/-! ## BIT (R1019 to R1022) -/

theorem bitFlags_of {s t : State} {b : BitVec 3} {v xy : Byte} (ha : t.a = s.a) (hf : t.f = bitFlags b v xy s.f) :
    BitFlags s b v (xy.getLsbD 5) (xy.getLsbD 3) t := by
  have hS : (decide (b.toNat = 7) && v.getLsbD 7) = (b == 7#3 && v.getLsbD b.toNat) := by
    by_cases h : b = 7#3
    · simp [h]
    · have hn : b.toNat ≠ 7 := fun e => h (BitVec.eq_of_toNat_eq e)
      simp [h, hn]
  rw [BitFlags, hf, hS]
  exact ⟨ha, flagsAre_packFlags ..⟩

/-- Settles O52: `BIT b,(HL)` makes the one draw that gives Y and X (R1021). -/
theorem bitTests : Obligations.BitTests := by
  intro s b
  refine ⟨fun r => ?reg, ?memHl, fun x d z => ?memIdx⟩
  case reg => exact runsQuiet_setF (exec_bitReg b r s) (fun w => by simp) fun t => bitFlags_of
  case memIdx =>
    exact runsQuiet_setF (v := fun u => bitFlags b (u.readByte (u.ea x d)) (hi (u.ea x d)) u.f)
      (exec_bitMemIdx x d b z s) (fun w => by simp) fun t => bitFlags_of
  case memHl =>
    refine runsTo_of_straight (exec_bitMemHl b s) fun w => ?_
    have hk (f : Byte) : Keeps [.af] (s.drawDone.set .ir w) ((s.drawDone.set .ir w).setF f) :=
      keeps_setF _ (by decide) f
    obtain ⟨hclock, hir, hparams, hctl, hregs⟩ := ((hk _).cons .pc).frame (by decide)
    exact ⟨(hk _).get (by decide), hclock, hir, hparams, hctl, hregs, fun p n w2 o =>
      ⟨fun a => by simp, by simp [SamePorts], _, _, bitFlags_of (xy := s.drawnLatch) (by simp) (by simp; rfl)⟩⟩

/-! ## RES and SET (R1023, R1024) -/

/-- The mask of one bit. -/
theorem getLsbD_mask (n : Nat) {k : Nat} (hk : k < 8) : (1#8 <<< n).getLsbD k = (k == n) := by
  rw [BitVec.getLsbD_shiftLeft, BitVec.getLsbD_one, Bool.eq_iff_iff]
  simp [hk]
  omega

theorem getLsbD_clearBit (b : BitVec 3) (v : Byte) {k : Nat} (hk : k < 8) :
    (clearBit b v).getLsbD k = (v.getLsbD k && k != b.toNat) := by
  rw [clearBit, BitVec.getLsbD_and, BitVec.getLsbD_not, getLsbD_mask _ hk, decide_eq_true hk]
  rfl

theorem getLsbD_raiseBit (b : BitVec 3) (v : Byte) {k : Nat} (hk : k < 8) :
    (raiseBit b v).getLsbD k = (v.getLsbD k || k == b.toNat) := by
  rw [raiseBit, BitVec.getLsbD_or, getLsbD_mask _ hk]

/-- `RES` or `SET` in its four forms, each of which writes `g b` of its operand. -/
theorem bitForms {s : State} {g : BitVec 3 → Byte → Byte} {reg : BitVec 3 → Reg8 → Instr} {memHl : BitVec 3 → Instr}
    {memIdx : Idx → Byte → BitVec 3 → Instr} {copy : Idx → Byte → BitVec 3 → Reg8 → Instr}
    (hreg : ∀ b r, exec (reg b r) s = straight 2 8 2 (fun u => u.setReg8 r (g b (u.reg8 r))) s)
    (hmemHl : ∀ b, exec (memHl b) s =
      straight 2 15 2 (fun u => u.writeByte (u.get .hl) (g b (u.readByte (u.get .hl)))) s)
    (hmemIdx : ∀ x d b, exec (memIdx x d b) s =
      straight 4 23 2 (fun u => u.writeByte (u.ea x d) (g b (u.readByte (u.ea x d)))) s)
    (hcopy : ∀ x d b r, exec (copy x d b r) s =
      straight 4 23 2 (fun u => u.writeCopy (u.ea x d) r (g b (u.readByte (u.ea x d)))) s) :
    BitForms s g reg memHl memIdx copy :=
  ⟨fun b r => runsQuiet_setReg8 (hreg b r) (reg8Home_mem_main r) (by decide) (by decide) fun w => by simp,
    fun b => runsStoring_writeByte (hmemHl b) (fun w => rfl) fun w => rfl,
    fun x d b => runsStoring_writeByte (a := fun u => u.ea x d) (hmemIdx x d b) (fun w => by simp) fun w => by simp,
    fun x d b r => runsStoring_writeCopy (a := fun u => u.ea x d) (hcopy x d b r) (fun w => by simp) fun w => by simp⟩

/-- Settles O53. -/
theorem bitWrites : Obligations.BitWrites :=
  ⟨fun b v _ hk => ⟨getLsbD_clearBit b v hk, getLsbD_raiseBit b v hk⟩, fun s =>
    ⟨bitForms (exec_resReg · · s) (exec_resMemHl · s) (exec_resMemIdx · · · s) (exec_resMemIdxCopy · · · · s),
      bitForms (exec_setReg · · s) (exec_setMemHl · s) (exec_setMemIdx · · · s) (exec_setMemIdxCopy · · · · s)⟩⟩

/-! ## RLD and RRD (R1025, R1026) -/

/-- Two digits put together: one has no low digit, the other no high one. -/
theorem toNat_or_digits {x y : Byte} (hx : x.toNat % 16 = 0) (hy : y.toNat < 16) :
    (x ||| y).toNat = x.toNat + y.toNat := by
  have hdigit : x.toNat = 2 ^ 4 * (x.toNat / 16) := by omega
  rw [BitVec.toNat_or, hdigit, ← Nat.two_pow_add_eq_or_of_lt hy]

theorem toNat_lowDigit (v : Byte) : (v &&& 0x0F#8).toNat = v.toNat % 16 :=
  (BitVec.toNat_and ..).trans (Nat.and_two_pow_sub_one_eq_mod v.toNat 4)

theorem toNat_shiftDigit (v : Byte) : (v <<< 4).toNat = v.toNat % 16 * 16 := by
  have := v.isLt
  simp only [BitVec.toNat_shiftLeft, Nat.shiftLeft_eq]
  omega

theorem toNat_dropDigit (v : Byte) : (v >>> 4).toNat = v.toNat / 16 := by
  simp [Nat.shiftRight_eq_div_pow]

theorem toNat_highDigit (v : Byte) : (v &&& 0xF0#8).toNat = v.toNat / 16 * 16 := by
  have e : v &&& 0xF0#8 = (v >>> 4) <<< 4 := by
    refine BitVec.eq_of_getLsbD_eq fun n hn => ?_
    interval_cases n <;> simp
  have := v.isLt
  rw [e, toNat_shiftDigit, toNat_dropDigit]
  omega

theorem rldMem_eq (a t : Byte) : rldMem a t = BitVec.ofNat 8 (t.toNat % 16 * 16 + a.toNat % 16) := by
  refine BitVec.eq_of_toNat_eq ?_
  rw [rldMem, toNat_or_digits, toNat_shiftDigit, toNat_lowDigit, BitVec.toNat_ofNat]
  · omega
  · rw [toNat_shiftDigit]; omega
  · rw [toNat_lowDigit]; omega

theorem toNat_rldA (a t : Byte) : (rldA a t).toNat = a.toNat / 16 * 16 + t.toNat / 16 := by
  have := t.isLt
  rw [rldA, toNat_or_digits, toNat_highDigit, toNat_dropDigit]
  · rw [toNat_highDigit]; omega
  · rw [toNat_dropDigit]; omega

theorem rrdMem_eq (a t : Byte) : rrdMem a t = BitVec.ofNat 8 (a.toNat % 16 * 16 + t.toNat / 16) := by
  have := t.isLt
  refine BitVec.eq_of_toNat_eq ?_
  rw [rrdMem, toNat_or_digits, toNat_shiftDigit, toNat_lowDigit, toNat_dropDigit, BitVec.toNat_ofNat]
  · omega
  · rw [toNat_shiftDigit]; omega
  · rw [toNat_dropDigit]; omega

theorem toNat_rrdA (a t : Byte) : (rrdA a t).toNat = a.toNat / 16 * 16 + t.toNat % 16 := by
  rw [rrdA, toNat_or_digits, toNat_highDigit, toNat_lowDigit]
  · rw [toNat_highDigit]; omega
  · rw [toNat_lowDigit]; omega

theorem runsStoring_digits {i : Instr} {s : State} {len cost k : Nat} {m a : State → Byte} {Q : State → Prop}
    (he : exec i s = straight len cost k (fun u => u.digits (m u) (a u)) s) (hm : ∀ w, m (s.set .ir w) = m s)
    (ha : ∀ w, a (s.set .ir w) = a s) (hQ : ∀ t, t.a = a s → t.f = parityFlags (a s) s.f → Q t) :
    RunsStoring i s len cost k (s.get .hl) (m s) [.af] Q :=
  runs_of_keeps he (by decide) (by decide) (fun u => keeps_digits u (by decide) _ _) fun w p n w2 o =>
    ⟨fun b => (State.readByte_writeByte (s.set .ir w) _ b _).trans (by rw [hm]; rfl), by simp [SamePorts, State.digits],
      hQ _ (by simp [State.digits, ha]) (by simp [State.digits, ha])⟩

theorem flagsAre_parityFlags {s t : State} {v : Byte} (ha : t.a = v) (hf : t.f = parityFlags v s.f) :
    FlagsAre t.f (t.a.getLsbD 7) (t.a == 0) (t.a.getLsbD 5) false (t.a.getLsbD 3) (parity t.a) false
      (s.f.getLsbD 0) := by
  rw [ha, hf]
  exact flagsAre_sz53 ..

/-- Settles O54. -/
theorem digitRotates : Obligations.DigitRotates := by
  intro s v
  refine ⟨?rld, ?rrd⟩
  case rld =>
    rw [← rldMem_eq]
    exact runsStoring_digits (exec_rld s) (fun w => rfl) (fun w => rfl) fun t ha hf =>
      ⟨by rw [ha]; exact toNat_rldA .., flagsAre_parityFlags ha hf⟩
  case rrd =>
    rw [← rrdMem_eq]
    exact runsStoring_digits (exec_rrd s) (fun w => rfl) (fun w => rfl) fun t ha hf =>
      ⟨by rw [ha]; exact toNat_rrdA .., flagsAre_parityFlags ha hf⟩

end Sys2Proof.Machine
end

section
/-! PROOFS of 44_alu8.md R840, `DAA` (O41 to O43), and of 45_alu16.md R901 to R904, the 16-bit arithmetic (O46, O47). -/

namespace Sys2Proof.Machine

/-! ## DAA (R840) -/

/-- The carry that `DAA` leaves. -/
def daaCarry (a f : Byte) : Bool := f.getLsbD 0 || decide (0x99 < a.toNat)

/-- The correction that `DAA` adds or subtracts. -/
def daaCorrection (a f : Byte) : Nat :=
  (if f.getLsbD 4 || decide (9 < a.toNat % 16) then 0x06 else 0) + if daaCarry a f then 0x60 else 0

theorem ofInt_sub_toNat (a : Byte) (n : Nat) : BitVec.ofInt 8 (a.toNat - n) = a - BitVec.ofNat 8 n := by
  refine BitVec.eq_of_toNat_eq ?_
  rw [BitVec.toNat_ofInt, BitVec.toNat_sub, BitVec.toNat_ofNat]
  omega

theorem ofNat_toNat_add (a : Byte) (n : Nat) : BitVec.ofNat 8 (a.toNat + n) = a + BitVec.ofNat 8 n := by
  rw [BitVec.ofNat_add, BitVec.ofNat_toNat, BitVec.setWidth_eq]

theorem daa8_fst (a f : Byte) : (daa8 a f).1 =
    if f.getLsbD 1 then a - BitVec.ofNat 8 (daaCorrection a f) else a + BitVec.ofNat 8 (daaCorrection a f) := by
  rw [← ofInt_sub_toNat, ← ofNat_toNat_add]
  rfl

theorem flagsAre_daa8 (a f : Byte) : FlagsAre (daa8 a f).2 ((daa8 a f).1.getLsbD 7) ((daa8 a f).1 == 0)
    ((daa8 a f).1.getLsbD 5)
    (if f.getLsbD 1 then f.getLsbD 4 && decide (a.toNat % 16 < 6) else decide (9 < a.toNat % 16))
    ((daa8 a f).1.getLsbD 3) (parity (daa8 a f).1) (f.getLsbD 1) (daaCarry a f) := flagsAre_packFlags ..

/-- The correction as a byte: each half of it is there or not. -/
theorem ofNat_daaCorrection (a f : Byte) : BitVec.ofNat 8 (daaCorrection a f) =
    (if f.getLsbD 4 || decide (9 < a.toNat % 16) then 0x06#8 else 0#8) + (if daaCarry a f then 0x60#8 else 0#8) := by
  rw [daaCorrection]
  split_ifs <;> rfl

/-- Settles O41. -/
theorem decimalAdjust : Obligations.DecimalAdjust := by
  intro s hs
  have hdaa : ¬ (s.params.daaMode = .strict ∧ daaInTable s.a s.f = false) := by
    rintro ⟨hstrict, hout⟩
    obtain htotal | hin := hs
    · simp [htotal] at hstrict
    · simp [hin] at hout
  refine runsTo_of_sequencer (exec_daa s) fun w => ?_
  have hk (v : Byte × Byte) : Keeps [.af] (s.set .ir w) ((s.set .ir w).setAF v) := keeps_setAF _ (by decide) v
  obtain ⟨hclock, hir, hparams, hctl, hregs⟩ := ((hk (daa8 s.a s.f)).cons .pc).frame (by decide)
  refine ⟨.next, _, if_neg hdaa, by simp [State.advance], rfl, hclock, hir, hparams, hctl, hregs, fun p n w2 o =>
    ⟨fun a => by simp, by simp [SamePorts], ?_⟩⟩
  have hfst := daa8_fst s.a s.f
  rw [ofNat_daaCorrection] at hfst
  simp only [State.reporting_a, State.set_ir_a, State.tick_a, State.set_pc_a, State.setAF_a, State.reporting_f,
    State.set_ir_f, State.tick_f, State.set_pc_f, State.setAF_f]
  exact ⟨hfst, flagsAre_daa8 s.a s.f⟩

/-- Settles O42. -/
theorem strictDecimalAdjustIsFatal : Obligations.StrictDecimalAdjustIsFatal := by
  intro s hstrict hout
  obtain ⟨w, hw⟩ := daaStopped_eq s
  refine ⟨_, exec_daa_of_fails ⟨rfl, hstrict, hout⟩, ?control, ?clock, fun g hg => ?regs, fun ho => ?after,
    fun ho => ?before, ?bytes, ?ports, rfl⟩
  case control => rw [hw]; simp [SameControl, State.reporting]
  case clock => rw [hw]; rfl
  case regs => rw [hw]; exact State.get_set_ne s (Ne.symm (by simpa using hg)) w
  case after => simp [State.daaStopped, State.refreshIf, ho]; rfl
  case before =>
    have hu : s.refreshIf .beforeExecute 1 = s.refresh 1 := by simp [State.refreshIf, ho]
    rw [State.daaStopped, hu]
    exact State.refreshed_refresh s 1
  case bytes => rw [hw]; exact fun a => rfl
  case ports => rw [hw]; exact ⟨rfl, rfl⟩

/-- A row's correction has its two halves, the upper one with the carry. -/
theorem daaTable_correction : ∀ row ∈ daaTable,
    row.correction = (if row.correction % 16 = 6 then 6 else 0) + if row.cOut then 0x60 else 0 := by decide

/-- The ranges of a row decide both comparisons of the formula. -/
theorem daaTable_ranges {row : DaaRow} {n : Nat} (hrow : row ∈ daaTable) (hn : n < 256) (hhigh : row.highFrom ≤ n / 16)
    (hhigh2 : n / 16 ≤ row.highTo) (hlow : row.lowFrom ≤ n % 16) (hlow2 : n % 16 ≤ row.lowTo) :
    (row.h = true ∨ 9 < n % 16 ↔ row.correction % 16 = 6) ∧ (row.c = true ∨ 0x99 < n ↔ row.cOut = true) := by
  simp only [daaTable, List.mem_cons, List.not_mem_nil, or_false] at hrow
  rcases hrow with rfl | rfl | rfl | rfl | rfl | rfl | rfl | rfl | rfl | rfl | rfl | rfl | rfl <;>
    simp at hhigh hhigh2 hlow hlow2 ⊢ <;> omega

/-- On every row the correction and the carry are the row's. -/
theorem daa_of_matches {row : DaaRow} {a f : Byte} (hrow : row ∈ daaTable) (hm : row.matches a f = true) :
    f.getLsbD 1 = row.n ∧ daaCorrection a f = row.correction ∧ daaCarry a f = row.cOut := by
  simp only [DaaRow.matches, Bool.and_eq_true, beq_iff_eq, decide_eq_true_eq] at hm
  obtain ⟨⟨⟨⟨⟨⟨hn, hc⟩, hh⟩, hhigh⟩, hhigh2⟩, hlow⟩, hlow2⟩ := hm
  obtain ⟨hhalf, hout⟩ := daaTable_ranges hrow a.isLt hhigh hhigh2 hlow hlow2
  have hcarry : daaCarry a f = row.cOut := by
    rw [Bool.eq_iff_iff, ← hout, hc, daaCarry, Bool.or_eq_true, decide_eq_true_eq]; rfl
  have hdigit : (f.getLsbD 4 || decide (9 < a.toNat % 16)) = true ↔ row.correction % 16 = 6 := by
    rw [← hhalf, hh, Bool.or_eq_true, decide_eq_true_eq]; rfl
  refine ⟨hn.symm, ?_, hcarry⟩
  rw [daaCorrection, hcarry, daaTable_correction row hrow]
  simp only [hdigit]

/-- Settles O43. -/
theorem decimalAdjustFollowsTheTable : Obligations.DecimalAdjustFollowsTheTable := by
  intro row a f hrow hm
  obtain ⟨hn, hcorrection, hcarry⟩ := daa_of_matches hrow hm
  obtain ⟨-, -, -, -, -, -, -, hC⟩ := flagsAre_daa8 a f
  exact ⟨by rw [daa8_fst, hn, hcorrection], hC.trans hcarry⟩

/-! ## 16-bit arithmetic (R416 to R418) -/

theorem toNat_adc16 (a b : Word) (c : Bool) : (adc16 a b c).1.toNat = (a.toNat + b.toNat + c.toNat) % 65536 :=
  BitVec.toNat_ofNat _ 16

theorem toNat_sbc16 (a b : Word) (c : Bool) :
    (sbc16 a b c).1.toNat = (a.toNat + 131072 - b.toNat - c.toNat) % 65536 := by
  have hc := Bool.toNat_le c
  have := b.isLt
  simp only [sbc16, bit, BitVec.toNat_ofInt]
  omega

theorem adc16_overflow (a b : Word) (c : Bool) :
    (a.getLsbD 15 == b.getLsbD 15 && (adc16 a b c).1.getLsbD 15 != a.getLsbD 15) =
      outOf16 (a.toInt + b.toInt + c.toNat) := by
  have hc := Bool.toNat_le c
  have ha := a.isLt
  have hb := b.isLt
  simp only [getLsbD_fifteen, toInt_word, toNat_adc16]
  exact overflow_add ha hb (by omega) hc (by omega)

theorem sbc16_overflow (a b : Word) (c : Bool) :
    (a.getLsbD 15 != b.getLsbD 15 && (sbc16 a b c).1.getLsbD 15 == b.getLsbD 15) =
      outOf16 (a.toInt - b.toInt - c.toNat) := by
  have hc := Bool.toNat_le c
  have ha := a.isLt
  have hb := b.isLt
  simp only [getLsbD_fifteen, toInt_word, toNat_sbc16]
  exact overflow_sub ha hb (by omega) hc (by omega)

theorem flagsAre_add16 (a b : Word) (f : Byte) :
    let r := add16 a b f
    FlagsAre r.2 (f.getLsbD 7) (f.getLsbD 6) (r.1.getLsbD 13) (decide (4096 ≤ a.toNat % 4096 + b.toNat % 4096))
      (r.1.getLsbD 11) (f.getLsbD 2) false (decide (65536 ≤ a.toNat + b.toNat)) := flagsAre_packFlags ..

theorem flagsAre_adc16 (a b : Word) (c : Bool) :
    let r := adc16 a b c
    FlagsAre r.2 (r.1.getLsbD 15) (r.1 == 0) (r.1.getLsbD 13)
      (decide (4096 ≤ a.toNat % 4096 + b.toNat % 4096 + c.toNat)) (r.1.getLsbD 11)
      (outOf16 (a.toInt + b.toInt + c.toNat)) false (decide (65536 ≤ a.toNat + b.toNat + c.toNat)) := by
  rw [← adc16_overflow]
  exact flagsAre_packFlags ..

theorem flagsAre_sbc16 (a b : Word) (c : Bool) :
    let r := sbc16 a b c
    FlagsAre r.2 (r.1.getLsbD 15) (r.1 == 0) (r.1.getLsbD 13) (decide (a.toNat % 4096 < b.toNat % 4096 + c.toNat))
      (r.1.getLsbD 11) (outOf16 (a.toInt - b.toInt - c.toNat)) true (decide (a.toNat < b.toNat + c.toNat)) := by
  have hh : decide (((a.toNat % 0x1000 : Nat) : Int) - ((b.toNat % 0x1000 : Nat) : Int) - bit c < 0) =
      decide (a.toNat % 4096 < b.toNat % 4096 + c.toNat) := decide_eq_decide.mpr (by unfold bit; omega)
  have hcarry : decide ((a.toNat : Int) - b.toNat - bit c < 0) = decide (a.toNat < b.toNat + c.toNat) :=
    decide_eq_decide.mpr (by unfold bit; omega)
  rw [← sbc16_overflow, ← hh, ← hcarry]
  exact flagsAre_packFlags ..

theorem runsQuiet_putWord {i : Instr} {s : State} {len cost k : Nat} {g : Reg16} {v : State → Word × Byte}
    {Q : State → Prop} (he : exec i s = straight len cost k (fun u => u.putWord g (v u)) s)
    (hg : g ≠ .pc ∧ g ≠ .ir ∧ g ≠ .af) (hv : ∀ w, v (s.set .ir w) = v s)
    (hQ : ∀ t, t.get g = (v s).1 → t.a = s.a → t.f = (v s).2 → Q t) : RunsQuiet i s len cost k [g, .af] Q := by
  obtain ⟨hpc, hir, haf⟩ := hg
  refine runs_of_keeps he (by simp [Ne.symm hpc]) (by simp [Ne.symm hir])
    (fun u => keeps_putWord u (by simp) (by simp) _) fun w p n w2 o => ⟨fun a => by simp [State.putWord],
      by simp [SamePorts, State.putWord], hQ _ ?_ ?_ ?_⟩
  · simp [State.putWord, State.get_set_ne _ (Ne.symm hpc), State.get_set_ne _ (Ne.symm hir), State.setF, State.setLo,
      State.get_set_ne _ (Ne.symm haf), hv]
  · simp [State.putWord, State.set_a_ne _ haf]
  · simp [State.putWord, hv]

theorem idxReg_ne_af (x : Idx) : idxReg x ≠ .af := by cases x <;> decide

theorem added16_of {s t : State} {g : Reg16} {v : Word} (hg : t.get g = (add16 (s.get g) v s.f).1) (ha : t.a = s.a)
    (hf : t.f = (add16 (s.get g) v s.f).2) : Added16 s g v t := by
  rw [Added16, hg, hf]
  exact ⟨BitVec.toNat_ofNat _ 16, ha, flagsAre_add16 ..⟩

/-- Settles O46. -/
theorem addPairs : Obligations.AddPairs := by
  intro s p
  refine ⟨?hl, fun x => ?idx⟩
  case hl =>
    exact runsQuiet_putWord (exec_addHlPair p s) (by decide) (fun w => by simp) fun t => added16_of
  case idx =>
    have hp : (if p = .hl then s.get (idxReg x) else s.get (pairReg p)) = s.get (idxPairReg x p) := by cases p <;> rfl
    rw [hp]
    exact runsQuiet_putWord (exec_addIdxPair x p s) ⟨idxReg_ne_pc x, idxReg_ne_ir x, idxReg_ne_af x⟩ (fun w => by simp)
      fun t => added16_of

/-- Settles O47. -/
theorem addAndSubtractPairsWithCarry : Obligations.AddAndSubtractPairsWithCarry := by
  intro s p
  refine ⟨?adc, ?sbc⟩
  case adc =>
    refine runsQuiet_putWord (exec_adcHlPair p s) (by decide) (fun w => by simp) fun t hg ha hf => ?_
    rw [AddedCarry16, hg, hf]
    exact ⟨toNat_adc16 .., ha, flagsAre_adc16 ..⟩
  case sbc =>
    refine runsQuiet_putWord (exec_sbcHlPair p s) (by decide) (fun w => by simp) fun t hg ha hf => ?_
    rw [SubtractedCarry16, hg, hf]
    exact ⟨toNat_sbc16 .., ha, flagsAre_sbc16 ..⟩

end Sys2Proof.Machine
end

section
/-! PROOFS of 43_block.md: one unit a step (O32 to O35), and the run of `LDIR` (O36). -/

namespace Sys2Proof.Machine

/-! ## One unit (R700) -/

section
variable {i : Instr} {s : State} {but : List Reg16} {Q : State → Prop} {f : State → State}

theorem blockRuns_of_straight (he : exec i s = straight 2 16 2 f s) (hpc : .pc ∉ but) (hir : .ir ∉ but)
    (hk : ∀ u, Keeps but u (f u))
    (hQ : ∀ w p n w2 o, Q (((((f (s.set .ir w)).set .pc p).tick n).set .ir w2).reporting o)) :
    BlockRuns i s false but Q := runs_of_keeps he hpc hir hk hQ

/-- A repeating form: where the unit leaves more to do, the PC stays and Tslow is charged. -/
theorem blockRuns_of_repeating {r : Bool} {more : State → Prop} [DecidablePred more]
    (he : exec i s =
      sequencer ⟨2, 16, some 21, 2⟩ (fun u => .done (if more u then .againSlow else .next) (f u)) s)
    (hmore : ∀ w, more (s.set .ir w) ↔ r = true) (hpc : .pc ∉ but) (hir : .ir ∉ but) (hk : ∀ u, Keeps but u (f u))
    (hQ : ∀ w p n w2 o, Q (((((f (s.set .ir w)).set .pc p).tick n).set .ir w2).reporting o)) :
    BlockRuns i s r but Q := by
  refine runsTo_of_sequencer he fun w => ?_
  obtain ⟨hclock, hr, hparams, hctl, hregs⟩ := ((hk (s.set .ir w)).cons .pc).frame hir
  have hpc : (f (s.set .ir w)).get .pc = s.get .pc := ((hk _).get hpc).trans (State.get_set_ne s (by decide) w)
  refine ⟨_, _, rfl, ?_, ?_, hclock, hr, hparams, hctl, hregs, hQ w⟩
  all_goals by_cases hrep : r = true <;> simp [hmore, hrep, State.advance, Desc.charge, hpc]

end

/-- The step of a pointer as a number to add (R717). -/
def Dir.offset (d : Dir) : Word :=
  match d with
  | .up => 1
  | .down => -1

theorem Dir.step_eq (d : Dir) (w : Word) : d.step w = w + d.offset := by
  cases d
  · rfl
  · exact sub_eq_add_neg w 1

/-- A counter is not 0 after its decrement when it was not 1. -/
theorem bne_sub_one {n : Nat} (x : BitVec n) : (x - 1 != 0) = decide (x ≠ 1) := by
  rw [Bool.eq_iff_iff, bne_iff_ne, decide_eq_true_eq, ne_eq, sub_eq_zero]

/-! ## The flags (R701 to R714) -/

theorem FlagsAre.of_eq {f g : Byte} {S Z Y H X PV N C : Bool} (hg : FlagsAre g S Z Y H X PV N C) (h : f = g) :
    FlagsAre f S Z Y H X PV N C := h ▸ hg

theorem flagsAre_blockLoad (v a f : Byte) (bc : Word) : FlagsAre (blockLoadFlags v a f (bc - 1 != 0)) (f.getLsbD 7)
    (f.getLsbD 6) ((v + a).getLsbD 1) false ((v + a).getLsbD 3) (decide (bc ≠ 1)) false (f.getLsbD 0) := by
  rw [← bne_sub_one]
  exact flagsAre_packFlags ..

theorem flagsAre_blockCompare (a v f : Byte) (bc : Word) :
    let h := decide (a.toNat % 16 < v.toNat % 16)
    let n := a - v - BitVec.ofNat 8 h.toNat
    FlagsAre (blockCompareFlags a v f (bc - 1 != 0)) ((a - v).getLsbD 7) (a == v) (n.getLsbD 1) h (n.getLsbD 3)
      (decide (bc ≠ 1)) true (f.getLsbD 0) := by
  have hborrow : decide (((a.toNat % 16 : Nat) : Int) - ((v.toNat % 16 : Nat) : Int) < 0) =
      decide (a.toNat % 16 < v.toNat % 16) := decide_eq_decide.mpr (by omega)
  rw [← bne_sub_one, ← hborrow, ← beq_zero_sub]
  exact flagsAre_packFlags ..

theorem flagsAre_blockIo (v b adj : Byte) : let k := v.toNat + adj.toNat
    FlagsAre (blockIoFlags v b adj) (b.getLsbD 7) (b == 0) (b.getLsbD 5) (decide (255 < k)) (b.getLsbD 3)
      (parity (BitVec.ofNat 8 (k % 8) ^^^ b)) (v.getLsbD 7) (decide (255 < k)) := flagsAre_packFlags ..

/-! ## The registers of a block input or output -/

@[simp] theorem setReg8_b_get_hl (s : State) (v : Byte) : (s.setReg8 .b v).get .hl = s.get .hl := rfl
@[simp] theorem setReg8_b_a (s : State) (v : Byte) : (s.setReg8 .b v).a = s.a := rfl
@[simp] theorem setReg8_b_reg8_b (s : State) (v : Byte) : (s.setReg8 .b v).reg8 .b = v := by simp [State.reg8_setReg8]
@[simp] theorem setReg8_b_reg8_c (s : State) (v : Byte) : (s.setReg8 .b v).reg8 .c = s.reg8 .c := by
  simp [State.reg8_setReg8]
@[simp] theorem set_hl_reg8_b (s : State) (w : Word) : (s.set .hl w).reg8 .b = s.reg8 .b := rfl
@[simp] theorem set_hl_reg8_c (s : State) (w : Word) : (s.set .hl w).reg8 .c = s.reg8 .c := rfl
@[simp] theorem set_hl_reg8_l (s : State) (w : Word) : (s.set .hl w).reg8 .l = lo w := rfl

/-! ## The units -/

theorem movedUnit_ldUnit (s : State) (d : Dir) (w p : Word) (n : Nat) (w2 : Word) (o : Option StepReport) :
    MovedUnit s d.offset ((((((s.set .ir w).ldUnit d).set .pc p).tick n).set .ir w2).reporting o) := by
  refine ⟨fun b => ?stored, ?ports, ?hl, ?de, ?bc, ?a, ?flags⟩
  case stored =>
    simp only [State.reporting_readByte, State.set_readByte, State.tick_readByte, State.ldUnit, State.setF_readByte]
    exact State.readByte_writeByte (s.set .ir w) _ b _
  case ports => simp [SamePorts, State.ldUnit]
  case hl => simp [State.ldUnit, Dir.step_eq]
  case de => simp [State.ldUnit, Dir.step_eq]
  case bc => simp [State.ldUnit]
  case a => simp [State.ldUnit]
  case flags => exact (flagsAre_blockLoad (s.readByte (s.get .hl)) s.a s.f (s.get .bc)).of_eq (by simp [State.ldUnit])

/-- Settles O32. -/
theorem blockLoads : Obligations.BlockLoads := by
  intro s
  have hk (d : Dir) (u : State) : Keeps [.af, .bc, .de, .hl] u (u.ldUnit d) :=
    keeps_ldUnit u (by decide) (by decide) (by decide) d (by decide)
  have hmore (d : Dir) (w : Word) : ((s.set .ir w).ldUnit d).get .bc ≠ 0 ↔ (s.get .bc != 1) = true := by
    rw [bne_iff_ne, ← decide_eq_true_eq (p := s.get .bc ≠ 1), ← bne_sub_one, bne_iff_ne]
    simp [State.ldUnit]
  exact ⟨blockRuns_of_straight (exec_ldi s) (by decide) (by decide) (hk .up) (movedUnit_ldUnit s .up),
    blockRuns_of_straight (exec_ldd s) (by decide) (by decide) (hk .down) (movedUnit_ldUnit s .down),
    blockRuns_of_repeating (exec_ldir s) (hmore .up) (by decide) (by decide) (hk .up) (movedUnit_ldUnit s .up),
    blockRuns_of_repeating (exec_lddr s) (hmore .down) (by decide) (by decide) (hk .down) (movedUnit_ldUnit s .down)⟩

theorem comparedUnit_cpUnit (s : State) (d : Dir) (w p : Word) (n : Nat) (w2 : Word) (o : Option StepReport) :
    ComparedUnit s d.offset ((((((s.set .ir w).cpUnit d).set .pc p).tick n).set .ir w2).reporting o) := by
  refine ⟨fun b => ?bytes, ?ports, ?hl, ?bc, ?a, ?flags⟩
  case bytes => simp [State.cpUnit]
  case ports => simp [SamePorts, State.cpUnit]
  case hl => simp [State.cpUnit, Dir.step_eq]
  case bc => simp [State.cpUnit]
  case a => simp [State.cpUnit]
  case flags =>
    exact (flagsAre_blockCompare s.a (s.readByte (s.get .hl)) s.f (s.get .bc)).of_eq (by simp [State.cpUnit])

/-- Settles O33. -/
theorem blockCompares : Obligations.BlockCompares := by
  intro s
  have hk (d : Dir) (u : State) : Keeps [.af, .bc, .hl] u (u.cpUnit d) :=
    keeps_cpUnit u (by decide) (by decide) (by decide) d
  have hmore (d : Dir) (w : Word) : (((s.set .ir w).cpUnit d).get .bc ≠ 0 ∧
      (s.set .ir w).a - (s.set .ir w).readByte ((s.set .ir w).get .hl) ≠ 0) ↔
      (s.get .bc != 1 && s.a != s.readByte (s.get .hl)) = true := by
    rw [Bool.and_eq_true, bne_iff_ne, ← decide_eq_true_eq (p := s.get .bc ≠ 1), ← bne_sub_one, bne_iff_ne, bne_iff_ne,
      ne_eq (s.a), ← sub_eq_zero]
    simp [State.cpUnit]
  exact ⟨blockRuns_of_straight (exec_cpi s) (by decide) (by decide) (hk .up) (comparedUnit_cpUnit s .up),
    blockRuns_of_straight (exec_cpd s) (by decide) (by decide) (hk .down) (comparedUnit_cpUnit s .down),
    blockRuns_of_repeating (exec_cpir s) (hmore .up) (by decide) (by decide) (hk .up) (comparedUnit_cpUnit s .up),
    blockRuns_of_repeating (exec_cpdr s) (hmore .down) (by decide) (by decide) (hk .down) (comparedUnit_cpUnit s .down)⟩

/-! ## Input and output (R709 to R716) -/

/-- What a block input adds to C for the flags. -/
def Dir.adjustment (d : Dir) : Byte :=
  match d with
  | .up => 1
  | .down => -1

theorem Dir.adjust_eq (d : Dir) (v : Byte) : d.adjust v = v + d.adjustment := by
  cases d
  · rfl
  · exact sub_eq_add_neg v 1

theorem inputUnit_inUnit (s : State) (d : Dir) (w p : Word) (n : Nat) (w2 : Word) (o : Option StepReport) :
    InputUnit s d.offset d.adjustment ((((((s.set .ir w).inUnit d).set .pc p).tick n).set .ir w2).reporting o) := by
  refine ⟨fun b => ?stored, ?portIn, ?portLog, ?hl, ?b, ?c, ?a, ?flags⟩
  case stored =>
    simp only [State.reporting_readByte, State.set_readByte, State.tick_readByte, State.inUnit, State.setF_readByte,
      State.setReg8_readByte]
    refine (State.readByte_writeByte _ _ b _).trans ?_
    simp
  case portIn => simp [State.inUnit]
  case portLog => simp [State.inUnit]
  case hl => simp [State.inUnit, Dir.step_eq]
  case b => simp [State.inUnit]
  case c => simp [State.inUnit]
  case a => simp [State.inUnit]
  case flags =>
    exact (flagsAre_blockIo (s.portValue (s.reg8 .c) (s.reg8 .b)) (s.reg8 .b - 1) (s.reg8 .c + d.adjustment)).of_eq
      (by simp [State.inUnit, Dir.adjust_eq])

theorem outputUnit_outUnit (s : State) (d : Dir) (w p : Word) (n : Nat) (w2 : Word) (o : Option StepReport) :
    OutputUnit s d.offset ((((((s.set .ir w).outUnit d).set .pc p).tick n).set .ir w2).reporting o) := by
  refine ⟨fun b => ?bytes, ?portIn, ?portLog, ?hl, ?b, ?c, ?a, ?flags⟩
  case bytes => simp [State.outUnit]
  case portIn => simp [State.outUnit]
  case portLog => simp [State.outUnit]
  case hl => simp [State.outUnit, Dir.step_eq]
  case b => simp [State.outUnit]
  case c => simp [State.outUnit]
  case a => simp [State.outUnit]
  case flags =>
    exact (flagsAre_blockIo (s.readByte (s.get .hl)) (s.reg8 .b - 1) (lo (s.get .hl + d.offset))).of_eq
      (by simp [State.outUnit, Dir.step_eq])

/-- Settles O34. -/
theorem blockInputs : Obligations.BlockInputs := by
  intro s
  have hk (d : Dir) (u : State) : Keeps [.af, .bc, .hl] u (u.inUnit d) :=
    keeps_inUnit u (by decide) (by decide) (by decide) d
  have hmore (d : Dir) (w : Word) : ((s.set .ir w).inUnit d).reg8 .b ≠ 0 ↔ (s.reg8 .b != 1) = true := by
    rw [bne_iff_ne, ← decide_eq_true_eq (p := s.reg8 .b ≠ 1), ← bne_sub_one, bne_iff_ne]
    simp [State.inUnit]
  exact ⟨blockRuns_of_straight (exec_ini s) (by decide) (by decide) (hk .up) (inputUnit_inUnit s .up),
    blockRuns_of_straight (exec_ind s) (by decide) (by decide) (hk .down) (inputUnit_inUnit s .down),
    blockRuns_of_repeating (exec_inir s) (hmore .up) (by decide) (by decide) (hk .up) (inputUnit_inUnit s .up),
    blockRuns_of_repeating (exec_indr s) (hmore .down) (by decide) (by decide) (hk .down) (inputUnit_inUnit s .down)⟩

/-- Settles O35. -/
theorem blockOutputs : Obligations.BlockOutputs := by
  intro s
  have hk (d : Dir) (u : State) : Keeps [.af, .bc, .hl] u (u.outUnit d) :=
    keeps_outUnit u (by decide) (by decide) (by decide) d
  have hmore (d : Dir) (w : Word) : ((s.set .ir w).outUnit d).reg8 .b ≠ 0 ↔ (s.reg8 .b != 1) = true := by
    rw [bne_iff_ne, ← decide_eq_true_eq (p := s.reg8 .b ≠ 1), ← bne_sub_one, bne_iff_ne]
    simp [State.outUnit]
  exact ⟨blockRuns_of_straight (exec_outi s) (by decide) (by decide) (hk .up) (outputUnit_outUnit s .up),
    blockRuns_of_straight (exec_outd s) (by decide) (by decide) (hk .down) (outputUnit_outUnit s .down),
    blockRuns_of_repeating (exec_otir s) (hmore .up) (by decide) (by decide) (hk .up) (outputUnit_outUnit s .up),
    blockRuns_of_repeating (exec_otdr s) (hmore .down) (by decide) (by decide) (hk .down) (outputUnit_outUnit s .down)⟩

/-! ## The run of LDIR (R703, R717) -/

/-- One run more is one more `exec` at the end. -/
theorem execTimes_succ {i : Instr} {k : Nat} {s t : State} (h : execTimes i k s = .next t) :
    execTimes i (k + 1) s = exec i t := by
  induction k generalizing s with
  | zero =>
    obtain rfl := Host.Outcome.next.inj h
    rw [execTimes]
    cases exec i s <;> rfl
  | succ k ih =>
    rw [execTimes] at h ⊢
    cases hx : exec i s with
    | next u =>
      rw [hx] at h
      exact ih h
    | fault f | refused r => simp [hx] at h

/-- What `k` units have done, of a run that started in `s` with the counter `n`. -/
structure UnitsMoved (s : State) (n k : Nat) (t : State) : Prop where
  run : execTimes .ldir k s = .next t
  counter : (t.get .bc).toNat = (n - k) % 65536
  hl : t.get .hl = s.get .hl + BitVec.ofNat 16 k
  de : t.get .de = s.get .de + BitVec.ofNat 16 k
  params : t.params = s.params

theorem ofNat_succ (k : Nat) : BitVec.ofNat 16 (k + 1) = BitVec.ofNat 16 k + 1 := BitVec.ofNat_add ..

/-- One unit more: the PC and the charge depend on whether it was the last. -/
theorem UnitsMoved.succ {s t : State} {n k : Nat} (h : UnitsMoved s n k t) (hn : n ≤ 65536) (hk : k < n) :
    ∃ u, exec .ldir t = .next u ∧ UnitsMoved s n (k + 1) u ∧
      Stored t u (s.get .de + BitVec.ofNat 16 k) (t.readByte (s.get .hl + BitVec.ofNat 16 k)) ∧
      (k + 1 < n → u.get .pc = t.get .pc ∧ u.clock = t.clock + 21) ∧
      (k + 1 = n → u.get .pc = t.get .pc + 2 ∧ u.clock = t.clock + 16) := by
  obtain ⟨-, -, hldir, -⟩ := blockLoads t
  obtain ⟨u, hu, hpc, hclock, -, hctl, -, hstored, -, hhl, hde, hbc, -, -⟩ := hldir
  obtain ⟨-, -, -, -, -, -, -, -, hparams, -, -⟩ := hctl
  have hcounter := h.counter
  have hone : (1 : Word).toNat = 1 := rfl
  rw [h.hl, h.de] at hstored
  have hlast : (t.get .bc != 1) = true ↔ k + 1 < n := by
    rw [bne_iff_ne, ne_eq, ← BitVec.toNat_inj, hcounter, hone]
    omega
  refine ⟨u, hu, ⟨(execTimes_succ h.run).trans hu, ?_, ?_, ?_, hparams.trans h.params⟩, hstored,
    fun hlt => ?_, fun heq => ?_⟩
  · rw [hbc, BitVec.toNat_sub, hcounter, hone]
    omega
  · rw [hhl, h.hl, ofNat_succ, add_assoc]
  · rw [hde, h.de, ofNat_succ, add_assoc]
  · rw [hpc, hclock, if_pos (hlast.mpr hlt), if_pos (hlast.mpr hlt)]
    exact ⟨rfl, rfl⟩
  · have hnot : ¬ (t.get .bc != 1) = true := fun e => by have := hlast.mp e; omega
    rw [hpc, hclock, if_neg hnot, if_neg hnot]
    exact ⟨rfl, rfl⟩

/-- Before the last unit the PC is still at the instruction. -/
theorem unitsMoved_of_lt {s : State} {n : Nat} (hn : n ≤ 65536) (hbc : (s.get .bc).toNat = n % 65536) {k : Nat}
    (hk : k < n) : ∃ t, UnitsMoved s n k t ∧ t.get .pc = s.get .pc ∧ t.clock = s.clock + 21 * k := by
  induction k with
  | zero => exact ⟨s, ⟨rfl, hbc, by simp, by simp, rfl⟩, rfl, rfl⟩
  | succ k ih =>
    obtain ⟨t, ht, hpc, hclock⟩ := ih (by omega)
    obtain ⟨u, -, hu, -, hmore, -⟩ := ht.succ hn (by omega)
    obtain ⟨hupc, huclock⟩ := hmore hk
    exact ⟨u, hu, hupc.trans hpc, by omega⟩

/-- Settles O36, by induction on the number of units. -/
theorem blockLoadMovesItsCounter : Obligations.BlockLoadMovesItsCounter := by
  intro n s hpos hn hbc
  refine ⟨fun k hk => ?before, ?last⟩
  case before =>
    obtain ⟨t, ht, hpc, hclock⟩ := unitsMoved_of_lt hn hbc hk
    obtain ⟨u, hu, hnext, hstored, -, -⟩ := ht.succ hn hk
    exact ⟨t, u, ht.run, hpc, ht.counter, ht.hl, ht.de, hclock, ht.params, hu, hnext.run, hstored⟩
  case last =>
    obtain ⟨k, rfl⟩ : ∃ k, n = k + 1 := ⟨n - 1, by omega⟩
    obtain ⟨t, ht, hpc, hclock⟩ := unitsMoved_of_lt hn hbc (Nat.lt_succ_self k)
    obtain ⟨u, -, hu, -, -, hlast⟩ := ht.succ hn (Nat.lt_succ_self k)
    obtain ⟨hupc, huclock⟩ := hlast rfl
    refine ⟨u, hu.run, hupc.trans (by rw [hpc]), BitVec.eq_of_toNat_eq ?_, hu.hl, hu.de, ?_⟩
    · rw [hu.counter, Nat.sub_self]; rfl
    · rw [huclock, hclock]; omega

end Sys2Proof.Machine
end

section
/-! PROOFS of 47_control.md, 48_io.md and 49_cpu_control.md: transfers of control, ports, control state (O55 to O59). -/

namespace Sys2Proof.Machine

/-! ## Effects that write the PC or complete in two ways -/

section
variable {i : Instr} {s : State} {but : List Reg16} {Q : State → Prop} {pc : Word}

theorem runs_of_sequencer_keeps {d : Desc} {eff : State → Effect} {cost : Nat} (he : exec i s = sequencer d eff s)
    (hir : .ir ∉ but) (h : ∀ w, ∃ cs v, eff (s.set .ir w) = .done cs v ∧ Keeps (.pc :: but) (s.set .ir w) v ∧
      (v.advance d cs).get .pc = pc ∧ d.charge cs = cost ∧
      ∀ p n w2 o, Q ((((v.set .pc p).tick n).set .ir w2).reporting o)) : Runs i s pc cost d.rDelta but Q := by
  refine runsTo_of_sequencer he fun w => ?_
  obtain ⟨cs, v, hv, hk, hpc, hcost, hQ⟩ := h w
  obtain ⟨hclock, hr, hparams, hctl, hregs⟩ := hk.frame hir
  exact ⟨cs, v, hv, hpc, hcost, hclock, hr, hparams, hctl, hregs, hQ⟩

theorem runs_of_jumping_keeps {len cost k : Nat} {f : State → State} (he : exec i s = jumping len cost k f s)
    (hir : .ir ∉ but) (hpc : ∀ w, (f (s.set .ir w)).get .pc = pc) (hk : ∀ u, Keeps (.pc :: but) u (f u))
    (hQ : ∀ w p n w2 o, Q (((((f (s.set .ir w)).set .pc p).tick n).set .ir w2).reporting o)) :
    Runs i s pc cost k but Q :=
  runs_of_sequencer_keeps (d := ⟨len, cost, none, k⟩) he hir fun w => ⟨.again, _, rfl, hk _, hpc w, rfl, hQ w⟩

/-- A transfer that is taken where a condition holds, and else does nothing. -/
theorem runs_of_taken {d : Desc} {cc : Cond} {c : Completion} {f : State → State} {cost : Nat}
    (he : exec i s = sequencer d (fun u => if u.cond cc then .done c (f u) else .done .next u) s) (hir : .ir ∉ but)
    (hcc : s.cond cc = true) (hc : c = .again ∨ c = .againSlow) (hcost : d.charge c = cost)
    (hpc : ∀ w, (f (s.set .ir w)).get .pc = pc) (hk : ∀ u, Keeps (.pc :: but) u (f u))
    (hQ : ∀ w p n w2 o, Q (((((f (s.set .ir w)).set .pc p).tick n).set .ir w2).reporting o)) :
    Runs i s pc cost d.rDelta but Q := by
  refine runs_of_sequencer_keeps he hir fun w => ⟨c, _, if_pos (by simpa using hcc), hk _, ?_, hcost, hQ w⟩
  obtain rfl | rfl := hc <;> exact hpc w

theorem runsQuiet_of_not_taken {d : Desc} {cc : Cond} {c : Completion} {f : State → State}
    (he : exec i s = sequencer d (fun u => if u.cond cc then .done c (f u) else .done .next u) s)
    (hcc : s.cond cc = false) : RunsQuiet i s d.length d.t d.rDelta [] fun _ => True :=
  runs_of_sequencer_keeps he (by decide) fun w => ⟨.next, _, if_neg (by simp [hcc]), Keeps.refl _ _,
    by simp [State.advance], rfl, fun p n w2 o => ⟨fun _ => rfl, ⟨rfl, rfl⟩, trivial⟩⟩

end

/-! ## Jumps (R1101 to R1107) -/

/-- A transfer of control that touches neither memory nor the ports. -/
def Quiet (s t : State) : Prop := SameBytes s t ∧ SamePorts s t

theorem quiet_set_pc (s : State) (v w p : Word) (n : Nat) (w2 : Word) (o : Option StepReport) :
    Quiet s ((((((s.set .ir w).set .pc v).set .pc p).tick n).set .ir w2).reporting o) :=
  ⟨fun _ => rfl, rfl, rfl⟩

theorem runs_jump {i : Instr} {s : State} {len cost k : Nat} {target : State → Word}
    (he : exec i s = jumping len cost k (fun u => u.set .pc (target u)) s) (ht : ∀ w, target (s.set .ir w) = target s) :
    Runs i s (target s) cost k [] (Quiet s) :=
  runs_of_jumping_keeps he (by decide) (fun w => by simp [ht]) (fun u => keeps_set u (by simp) _)
    fun w => quiet_set_pc s _ w

/-- A conditional jump, taken and not taken. -/
theorem runs_jumpCond {i : Instr} {s : State} {d : Desc} {cc : Cond} {c : Completion} {target : State → Word}
    {cost : Nat}
    (he : exec i s = sequencer d (fun u => if u.cond cc then .done c (u.set .pc (target u)) else .done .next u) s)
    (hc : c = .again ∨ c = .againSlow) (ht : ∀ w, target (s.set .ir w) = target s)
    (hcost : (if s.cond cc then d.charge c else d.t) = cost) :
    Runs i s (if s.cond cc then target s else s.get .pc + BitVec.ofNat 16 d.length) cost d.rDelta [] (Quiet s) := by
  rw [← hcost]
  by_cases hcc : s.cond cc = true
  · rw [if_pos hcc, if_pos hcc]
    exact runs_of_taken he (by decide) hcc hc rfl (fun w => by simp [ht]) (fun u => keeps_set u (by simp) _)
      fun w => quiet_set_pc s _ w
  · rw [if_neg hcc, if_neg hcc]
    obtain ⟨t, ht, hpc, hclock, hr, hctl, hregs, hmem, hports, -⟩ := runsQuiet_of_not_taken he (by simpa using hcc)
    exact ⟨t, ht, hpc, hclock, hr, hctl, hregs, hmem, hports⟩

/-- B counted down: it is 0 where it was 1. -/
theorem djnz_counted (s : State) (w : Word) :
    ((s.set .ir w).setReg8 .b ((s.set .ir w).reg8 .b - 1)).reg8 .b ≠ 0 ↔ s.reg8 .b ≠ 1 := by
  rw [setReg8_b_reg8_b, State.set_ir_reg8, ne_eq, sub_eq_zero]

/-- `DJNZ` counts B down and jumps where it is not 0 (R1105). -/
theorem runs_djnz (s : State) (e : Byte) :
    Runs (.djnz e) s (if s.reg8 .b = 1 then s.get .pc + 2 else s.get .pc + 2 + sext16 e)
      (if s.reg8 .b = 1 then 8 else 13) 1 [.bc] fun t =>
        t.reg8 .b = s.reg8 .b - 1 ∧ t.reg8 .c = s.reg8 .c ∧ Quiet s t := by
  refine runs_of_sequencer_keeps (d := ⟨2, 8, some 13, 1⟩) (exec_djnz e s) (by decide) fun w => ?_
  have hk : Keeps [.pc, .bc] (s.set .ir w) ((s.set .ir w).setReg8 .b ((s.set .ir w).reg8 .b - 1)) :=
    keeps_setReg8 _ (by decide) _
  by_cases hb : s.reg8 .b = 1
  · refine ⟨.next, _, if_neg ((djnz_counted s w).not.mpr (by simpa using hb)), hk, ?_, by rw [if_pos hb]; rfl,
      fun p n w2 o => ⟨by simp, by simp, fun a => by simp, by simp [SamePorts]⟩⟩
    rw [if_pos hb]
    simp [State.advance]
  · refine ⟨.againSlow, _, if_pos ((djnz_counted s w).mpr hb), hk.set (by decide) _, ?_, by rw [if_neg hb]; rfl,
      fun p n w2 o => ⟨by simp, by simp, fun a => by simp, by simp [SamePorts]⟩⟩
    rw [if_neg hb]
    simp [State.advance, State.relative]

/-- Settles O55. -/
theorem jumps : Obligations.Jumps := by
  intro s quiet
  refine ⟨⟨rfl, rfl, rfl, rfl, rfl, rfl, rfl, rfl⟩, fun nn => ?jp, fun cc nn => ?jpCond, fun e => ?jr,
    fun cc e => ?jrCond, fun e => ?djnz, ?jpHl, fun x => ?jpIdx⟩
  case jp => exact runs_jump (target := fun _ => nn) (exec_jp nn s) fun w => rfl
  case jpCond =>
    exact runs_jumpCond (target := fun _ => nn) (exec_jpCond cc nn s) (.inl rfl) (fun w => rfl) (ite_self _)
  case jr => exact runs_jump (exec_jr e s) fun w => rfl
  case jrCond =>
    exact runs_jumpCond (target := fun u => u.relative e) (exec_jrCond cc e s) (.inr rfl) (fun w => rfl) rfl
  case jpHl => exact runs_jump (exec_jpHl s) fun w => rfl
  case jpIdx => exact runs_jump (exec_jpIdx x s) fun w => by simp
  case djnz => exact runs_djnz s e

/-! ## Calls and returns (R1108 to R1120) -/

/-- The return address on the stack. -/
def Pushed (s : State) (ret : Word) (t : State) : Prop :=
  t.get .sp = s.get .sp - 2 ∧ StoredWord s t (s.get .sp - 2) ret ∧ SamePorts s t

theorem pushed_callTo (s : State) (len : Nat) (target w p : Word) (n : Nat) (w2 : Word) (o : Option StepReport) :
    Pushed s (s.get .pc + BitVec.ofNat 16 len)
      ((((((s.set .ir w).callTo len target).set .pc p).tick n).set .ir w2).reporting o) :=
  ⟨by simp [State.callTo, push16_get_sp],
    fun b => by simpa [State.callTo] using storedWord_push16 (s.set .ir w) (s.get .pc + BitVec.ofNat 16 len) b,
    by simp [SamePorts, State.callTo, State.push16, State.writeWord]⟩

theorem callTo_get_pc (s : State) (len : Nat) (target : Word) : (s.callTo len target).get .pc = target :=
  State.get_set_self _ .pc target

/-- The PC and SP of a return. -/
def Popped (s t : State) : Prop := t.get .sp = s.get .sp + 2 ∧ SameBytes s t ∧ SamePorts s t

theorem popped_returnTo (s : State) (w p : Word) (n : Nat) (w2 : Word) (o : Option StepReport) :
    Popped s ((((((s.set .ir w).returnTo).set .pc p).tick n).set .ir w2).reporting o) :=
  ⟨by simp [State.returnTo, State.popDone], fun a => by simp [State.returnTo, State.popDone],
    by simp [SamePorts, State.returnTo, State.popDone]⟩

theorem returnTo_get_pc (s : State) (w : Word) : (s.set .ir w).returnTo.get .pc = wordAt s (s.get .sp) :=
  State.get_set_self _ .pc _

/-- Settles O56. -/
theorem callsAndRestarts : Obligations.CallsAndRestarts := by
  intro s pushed
  have hk (len : Nat) (target : Word) (u : State) : Keeps [.pc, .sp] u (u.callTo len target) :=
    keeps_callTo u (by decide) (by decide) len target
  refine ⟨fun nn => ?call, fun cc nn hcc => ?taken, fun cc nn hcc => ?notTaken, fun t => ?rst⟩
  case call =>
    exact runs_of_jumping_keeps (exec_call nn s) (by decide) (fun w => callTo_get_pc ..) (hk 3 nn)
      fun w => pushed_callTo s 3 nn w
  case taken =>
    exact runs_of_taken (exec_callCond cc nn s) (by decide) hcc (.inr rfl) rfl (fun w => callTo_get_pc ..) (hk 3 nn)
      fun w => pushed_callTo s 3 nn w
  case notTaken => exact runsQuiet_of_not_taken (exec_callCond cc nn s) hcc
  case rst =>
    rw [Nat.mul_comm]
    exact runs_of_jumping_keeps (exec_rst t s) (by decide) (fun w => callTo_get_pc ..) (hk 1 _)
      fun w => pushed_callTo s 1 _ w

/-- `RETN` and `RETI` return and copy IFF2 into IFF1. -/
theorem runsTo_returnFromInterrupt {i : Instr} {s : State} {len cost k : Nat}
    (he : exec i s = jumping len cost k (fun u => u.returnFromInterrupt) s) :
    RunsTo i s { s with iff1 := s.iff2 } (wordAt s (s.get .sp)) cost k [.sp] (Popped s) := by
  refine runsTo_of_jumping he fun w => ?_
  have hk : Keeps [.pc, .sp] (s.set .ir w) (s.set .ir w).returnTo := keeps_returnTo _ (by decide) (by decide)
  obtain ⟨hclock, hir, hparams, hctl, hregs⟩ := hk.frame (by decide)
  rw [returnFromInterrupt_eq]
  exact ⟨returnTo_get_pc s w, hclock, hir, hparams, ⟨rfl, hctl.2⟩, hregs, popped_returnTo s w⟩

/-- Settles O57. -/
theorem returns : Obligations.Returns := by
  intro s popped
  have hk (u : State) : Keeps [.pc, .sp] u u.returnTo := keeps_returnTo u (by decide) (by decide)
  refine ⟨?ret, fun cc hcc => ?taken, fun cc hcc => ?notTaken, fun z => ?retn, ?reti⟩
  case ret => exact runs_of_jumping_keeps (exec_ret s) (by decide) (returnTo_get_pc s) hk (popped_returnTo s)
  case taken =>
    exact runs_of_taken (exec_retCond cc s) (by decide) hcc (.inr rfl) rfl (returnTo_get_pc s) hk (popped_returnTo s)
  case notTaken => exact runsQuiet_of_not_taken (exec_retCond cc s) hcc
  case retn => exact runsTo_returnFromInterrupt (exec_retn z s)
  case reti => exact runsTo_returnFromInterrupt (exec_reti s)

/-! ## Ports (R1201 to R1206) -/

@[simp] theorem setA_a (s : State) (v : Byte) : (s.setA v).a = v := by simp [State.setA, State.setHi, State.a]

@[simp] theorem setA_f (s : State) (v : Byte) : (s.setA v).f = s.f := by simp [State.setA, State.setHi, State.f]

/-- Settles O58. -/
theorem inputAndOutput : Obligations.InputAndOutput := by
  intro s reads writes v flags
  refine ⟨fun n => ?inA, fun n => ?outA, fun r => ?inReg, ?inF, fun r => ?outReg, ?outZero⟩
  case inA =>
    exact runs_of_keeps (exec_inAImm n s) (by decide) (by decide) (fun u => keeps_portRead_setA u (by decide) _ _ _)
      fun w p n w2 o => ⟨by simp, by simp, fun a => by simp, by simp, by simp⟩
  case outA =>
    exact runs_of_keeps (exec_outImmA n s) (by decide) (by decide) (fun u => keeps_portWrite u _ _ _)
      fun w p n w2 o => ⟨fun a => by simp, by simp, by simp⟩
  case inReg =>
    refine runs_of_keeps (exec_inRegC r s) (by decide) (by decide)
      (fun u => keeps_portRead_putReg8 u (by decide) (reg8Home_mem_main r) _ _ _) fun w p n w2 o =>
      ⟨?_, (flagsAre_sz53 v false (parity v) false (fC s.f)).of_eq ?_, fun a => ?_, ?_, ?_⟩
    · simpa [PutReg8, State.putReg8] using
        (wroteReg8_setReg8 ((s.set .ir w).portRead (s.reg8 .c) (s.reg8 .b)) r v).1
    all_goals simp [State.putReg8]
    all_goals rfl
  case inF =>
    exact runs_of_keeps (exec_inFC s) (by decide) (by decide) (fun u => keeps_portRead_setF u (by decide) _ _ _)
      fun w p n w2 o => ⟨by simp, (flagsAre_sz53 v false (parity v) false (fC s.f)).of_eq (by simp; rfl),
        fun a => by simp, by simp, by simp⟩
  case outReg =>
    exact runs_of_keeps (exec_outCReg r s) (by decide) (by decide) (fun u => keeps_portWrite u _ _ _)
      fun w p n w2 o => ⟨fun a => by simp, by simp, by simp⟩
  case outZero =>
    exact runs_of_keeps (exec_outCZero s) (by decide) (by decide) (fun u => keeps_portWrite u _ _ _)
      fun w p n w2 o => ⟨fun a => by simp, by simp, by simp⟩

/-! ## No-operations and control state (R1301 to R1309) -/

theorem runsQuiet_nop {i : Instr} {s : State} {len cost k : Nat} (he : exec i s = straight len cost k (fun u => u) s) :
    RunsQuiet i s len cost k [] fun _ => True :=
  runs_of_keeps he (by decide) (by decide) (fun u => Keeps.refl _ u) fun _ _ _ _ _ =>
    ⟨fun _ => rfl, ⟨rfl, rfl⟩, trivial⟩

/-- An effect that writes control state only, and not the clock, the parameters or the draws. -/
theorem runsTo_control {i : Instr} {s c : State} {len cost k : Nat} {f : State → State}
    (he : exec i s = straight len cost k f s) (hregs : ∀ w, (f (s.set .ir w)).regs = (s.set .ir w).regs)
    (hclock : ∀ w, (f (s.set .ir w)).clock = s.clock) (hparams : ∀ w, (f (s.set .ir w)).params = s.params)
    (hctl : ∀ w, SameControl c (f (s.set .ir w))) (hquiet : ∀ w, Quiet s (f (s.set .ir w))) :
    RunsTo i s c (s.get .pc + BitVec.ofNat 16 len) cost k [] (Quiet s) := by
  refine runsTo_of_straight he fun w => ?_
  have hget (g : Reg16) : (f (s.set .ir w)).get g = (s.set .ir w).get g := congrArg (·.get g) (hregs w)
  refine ⟨(hget .pc).trans (State.get_set_ne s (by decide) w), hclock w, (hget .ir).trans (State.get_set_self s .ir w),
    hparams w, hctl w, fun g hg => ?_, fun p n w2 o => hquiet w⟩
  have hir : g ≠ .ir := fun h => hg (by simp [h])
  exact (hget g).trans (State.get_set_ne s (Ne.symm hir) w)

/-- Settles O59. -/
theorem cpuControlAndNoOperations : Obligations.CpuControlAndNoOperations := by
  intro s quiet
  refine ⟨?_, fun x => ?_, fun z => ?_, fun z => ?_, fun z => ?_, fun y z => ?_, fun z => ?_, ?halt, ?di, ?ei,
    fun y z => ?im0, fun z => ?im1, fun z => ?im2⟩
  · exact runsQuiet_nop (exec_nop s)
  · exact runsQuiet_nop (exec_nopPrefix x s)
  · exact runsQuiet_nop (exec_nopEdLow z s)
  · exact runsQuiet_nop (exec_nopEdHigh z s)
  · exact runsQuiet_nop (exec_nopEdMid z s)
  · exact runsQuiet_nop (exec_nopEdBlock y z s)
  · exact runsQuiet_nop (exec_nopEdSeven z s)
  case halt =>
    exact runsTo_control (exec_halt s) (fun _ => rfl) (fun _ => rfl) (fun _ => rfl) (fun _ => by simp [SameControl])
      fun _ => ⟨fun _ => rfl, rfl, rfl⟩
  case di =>
    exact runsTo_control (exec_di s) (fun _ => rfl) (fun _ => rfl) (fun _ => rfl) (fun _ => by simp [SameControl])
      fun _ => ⟨fun _ => rfl, rfl, rfl⟩
  case ei =>
    exact runsTo_control (exec_ei s) (fun _ => rfl) (fun _ => rfl) (fun _ => rfl) (fun _ => by simp [SameControl])
      fun _ => ⟨fun _ => rfl, rfl, rfl⟩
  case im0 =>
    exact runsTo_control (exec_im0 y z s) (fun _ => rfl) (fun _ => rfl) (fun _ => rfl) (fun _ => by simp [SameControl])
      fun _ => ⟨fun _ => rfl, rfl, rfl⟩
  case im1 =>
    exact runsTo_control (exec_im1 z s) (fun _ => rfl) (fun _ => rfl) (fun _ => rfl) (fun _ => by simp [SameControl])
      fun _ => ⟨fun _ => rfl, rfl, rfl⟩
  case im2 =>
    exact runsTo_control (exec_im2 z s) (fun _ => rfl) (fun _ => rfl) (fun _ => rfl) (fun _ => by simp [SameControl])
      fun _ => ⟨fun _ => rfl, rfl, rfl⟩

end Sys2Proof.Machine
end

section
/-! PROOFS of 49_cpu_control.md R1303, R1304 and R1506: no interrupt is taken in the step of `EI` or `DI` (O21). -/

namespace Sys2Proof.Machine

/-- A check that the mask or the EI delay keeps from accepting. -/
theorem interruptCheck_masked {s : State} (h : s.iff1 = false ∨ s.intInhibit = true) :
    ∃ b, s.interruptCheck = { s with intInhibit := false, intPending := b } := by
  obtain ⟨hc, -⟩ | ⟨hc, -⟩ | ⟨-, -, hiff, hinh, -⟩ := interruptCheck_cases s
  · exact ⟨s.intPending, hc⟩
  · exact ⟨false, hc⟩
  · obtain h | h := h
    · simp [h] at hiff
    · simp [h] at hinh

/-- The end of a step in which no request can be accepted changes the request window only, and ends the EI delay. -/
theorem endStep_masked {s : State} (hf : s.fatal = none) (h : s.iff1 = false ∨ s.intInhibit = true) :
    ∃ q b d, s.endStep = { s with irqQueue := q, intPending := b, intDeadline := d, intInhibit := false } := by
  obtain ⟨hne, -⟩ | ⟨-, he⟩ := endStep_cases s
  · exact absurd hf hne
  · obtain hr | hr := recordRequest_cases { s with irqQueue := s.irqQueue.tail } (s.irqQueue.headD false) <;>
      rw [hr] at he
    · obtain ⟨b, hb⟩ := interruptCheck_masked (s := { s with irqQueue := s.irqQueue.tail }) h
      exact ⟨_, b, _, he.trans hb⟩
    · obtain ⟨b, hb⟩ := interruptCheck_masked (s := { s with
        irqQueue := s.irqQueue.tail, intPending := true, intDeadline := s.clock + s.params.intDuration }) h
      exact ⟨_, b, _, he.trans hb⟩

/-- A step whose instruction leaves the machine masked ends where the instruction does. -/
theorem step_masked {s c t : State} {i : Instr} (hs : s.Running) (hi : s.fetchInstr = i)
    (hrun : RunsTo i s c (s.get .pc + 1) 4 1 [] (Quiet s)) (hc : c.fatal = none)
    (hmask : c.iff1 = false ∨ c.intInhibit = true)
    (ht : step s = .next t) : t.get .pc = s.get .pc + 1 ∧ t.clock = s.clock + 4 ∧ t.iff1 = c.iff1 ∧ t.iff2 = c.iff2 ∧
      t.get .sp = s.get .sp ∧ SameBytes s t ∧ t.intInhibit = false := by
  obtain ⟨u, hu, hpc, hclock, -, hctl, hregs, hmem, -⟩ := hrun
  obtain ⟨hiff1, hiff2, -, -, -, hinh, -, hfatal, -⟩ := hctl
  obtain ⟨q, b, d, hend⟩ := endStep_masked (hfatal.trans hc) (by rwa [hiff1, hinh])
  have hstep : t = u.endStep := by
    rw [step_of_running hs, hi, hu] at ht
    exact (Host.Outcome.next.inj ht).symm
  rw [hstep, hend]
  exact ⟨hpc, hclock, hiff1, hiff2, hregs .sp (by decide), hmem, rfl⟩

/-- Settles O21: `EI` leaves the delay, `DI` the mask. -/
theorem enableAndDisableAroundTheCheck : Obligations.EnableAndDisableAroundTheCheck := by
  intro s t hs ht
  obtain ⟨-, -, -, -, -, -, -, -, hdi, hei, -⟩ := cpuControlAndNoOperations s
  exact ⟨fun hi => step_masked hs hi hei hs.1 (.inr rfl) ht, fun hi => step_masked hs hi hdi hs.1 (.inl rfl) ht⟩

end Sys2Proof.Machine
end

section
/-! PROOFS of 10_state.md R104, index registers (O17), and of R402, the report (O60): what an instruction does not see. A
veil is a change of an index register or of the report. Every operation may be exchanged with it, as long as it names no
index register that the veil is on, so every effect may, but those under the register's own first byte. -/

namespace Sys2Proof.Machine

/-- A new value for an index register, or for the report. -/
inductive Veil where
  | index (x : Idx) (w : Word)
  | report (o : Option StepReport)

namespace Veil

/-- The value written. -/
def write (u : Veil) (s : State) : State :=
  match u with
  | .index x w => s.set (idxReg x) w
  | .report o => s.reporting o

/-- The registers the veil is not on. -/
def visible (u : Veil) (g : Reg16) : Bool :=
  match u with
  | .index x _ => g != idxReg x
  | .report _ => true

/-- The instructions that do not name the index register the veil is on. -/
def Spares (u : Veil) (i : Instr) : Prop := ∀ x w, u = .index x w → (encode i).head? ≠ some (prefixByte x)

section
variable (u : Veil) (s : State)

@[simp] theorem visible_af : u.visible .af = true := by rcases u with ⟨_ | _, w⟩ | o <;> rfl
@[simp] theorem visible_bc : u.visible .bc = true := by rcases u with ⟨_ | _, w⟩ | o <;> rfl
@[simp] theorem visible_de : u.visible .de = true := by rcases u with ⟨_ | _, w⟩ | o <;> rfl
@[simp] theorem visible_hl : u.visible .hl = true := by rcases u with ⟨_ | _, w⟩ | o <;> rfl
@[simp] theorem visible_sp : u.visible .sp = true := by rcases u with ⟨_ | _, w⟩ | o <;> rfl
@[simp] theorem visible_pc : u.visible .pc = true := by rcases u with ⟨_ | _, w⟩ | o <;> rfl
@[simp] theorem visible_ir : u.visible .ir = true := by rcases u with ⟨_ | _, w⟩ | o <;> rfl
@[simp] theorem visible_shAf : u.visible .shAf = true := by rcases u with ⟨_ | _, w⟩ | o <;> rfl
@[simp] theorem visible_shBc : u.visible .shBc = true := by rcases u with ⟨_ | _, w⟩ | o <;> rfl
@[simp] theorem visible_shDe : u.visible .shDe = true := by rcases u with ⟨_ | _, w⟩ | o <;> rfl
@[simp] theorem visible_shHl : u.visible .shHl = true := by rcases u with ⟨_ | _, w⟩ | o <;> rfl
@[simp] theorem visible_pairReg (p : Pair) : u.visible (pairReg p) = true := by cases p <;> simp [pairReg]
@[simp] theorem visible_pairAfReg (q : PairAf) : u.visible (pairAfReg q) = true := by cases q <;> simp [pairAfReg]
@[simp] theorem visible_reg8Home (r : Reg8) : u.visible (reg8Home r) = true := by cases r <;> simp [reg8Home]

/-- The index register of an instruction that the veil spares. -/
theorem Spares.idxReg {u : Veil} {i : Instr} {x : Idx} (h : u.Spares i) (hi : (encode i).head? = some (prefixByte x)) :
    u.visible (idxReg x) = true := by
  cases u with
  | report o => rfl
  | index y w =>
    have hne : x ≠ y := by rintro rfl; exact h x w rfl hi
    cases x <;> cases y <;> first | rfl | exact absurd rfl hne

theorem visible_idxPairReg {x : Idx} (hx : u.visible (Machine.idxReg x) = true) (p : Pair) :
    u.visible (idxPairReg x p) = true := by cases p <;> simp [idxPairReg, hx]

/-! ## What reads as before -/

@[simp] theorem write_params : (u.write s).params = s.params := by cases u <;> rfl
@[simp] theorem write_iff2 : (u.write s).iff2 = s.iff2 := by cases u <;> rfl
@[simp] theorem write_readByte (a : Word) : (u.write s).readByte a = s.readByte a := by cases u <;> rfl
@[simp] theorem write_portValue (p q : Byte) : (u.write s).portValue p q = s.portValue p q := by cases u <;> rfl
@[simp] theorem write_drawnLatch : (u.write s).drawnLatch = s.drawnLatch := by cases u <;> rfl

@[simp] theorem write_get {r : Reg16} (hr : u.visible r = true) : (u.write s).get r = s.get r := by
  cases u with
  | index x w => exact State.get_set_ne s (Ne.symm (by simpa [visible] using hr)) w
  | report o => rfl

@[simp] theorem write_getHalf {r : Reg16} (hr : u.visible r = true) (h : Half) :
    (u.write s).getHalf r h = s.getHalf r h := by cases h <;> simp [State.getHalf, hr]
@[simp] theorem write_a : (u.write s).a = s.a := by simp [State.a]
@[simp] theorem write_f : (u.write s).f = s.f := by simp [State.f]
@[simp] theorem write_i : (u.write s).i = s.i := by simp [State.i]
@[simp] theorem write_r : (u.write s).r = s.r := by simp [State.r]
@[simp] theorem write_reg8 (r : Reg8) : (u.write s).reg8 r = s.reg8 r := by simp [State.reg8]
@[simp] theorem write_cond (cc : Cond) : (u.write s).cond cc = s.cond cc := by cases cc <;> simp [State.cond]

/-! ## The operations it may be exchanged with -/

@[simp] theorem set_write {r : Reg16} (hr : u.visible r = true) (v : Word) :
    (u.write s).set r v = u.write (s.set r v) := by
  cases u with
  | index x w => exact State.set_comm s (Ne.symm (by simpa [visible] using hr)) w v
  | report o => rfl

@[simp] theorem tick_write (n : Nat) : (u.write s).tick n = u.write (s.tick n) := by cases u <;> rfl
@[simp] theorem drawDone_write : (u.write s).drawDone = u.write s.drawDone := by cases u <;> rfl
@[simp] theorem portRead_write (p q : Byte) : (u.write s).portRead p q = u.write (s.portRead p q) := by cases u <;> rfl
@[simp] theorem portWrite_write (p q v : Byte) : (u.write s).portWrite p q v = u.write (s.portWrite p q v) := by
  cases u <;> rfl
@[simp] theorem writeByte_write (a : Word) (v : Byte) : (u.write s).writeByte a v = u.write (s.writeByte a v) := by
  simp only [State.writeByte_eq]; cases u <;> rfl
@[simp] theorem setHi_write {r : Reg16} (hr : u.visible r = true) (v : Byte) :
    (u.write s).setHi r v = u.write (s.setHi r v) := by simp [State.setHi, hr]
@[simp] theorem setLo_write {r : Reg16} (hr : u.visible r = true) (v : Byte) :
    (u.write s).setLo r v = u.write (s.setLo r v) := by simp [State.setLo, hr]
@[simp] theorem setHalf_write {r : Reg16} (hr : u.visible r = true) (h : Half) (v : Byte) :
    (u.write s).setHalf r h v = u.write (s.setHalf r h v) := by cases h <;> simp [State.setHalf, hr]
@[simp] theorem setReg8_write (r : Reg8) (v : Byte) : (u.write s).setReg8 r v = u.write (s.setReg8 r v) := by
  simp [State.setReg8]
@[simp] theorem setF_write (v : Byte) : (u.write s).setF v = u.write (s.setF v) := by simp [State.setF]
@[simp] theorem setAF_write (v : Byte × Byte) : (u.write s).setAF v = u.write (s.setAF v) := by simp [State.setAF]
@[simp] theorem writeWord_write (a v : Word) : (u.write s).writeWord a v = u.write (s.writeWord a v) := by
  simp [State.writeWord]
@[simp] theorem push16_write (v : Word) : (u.write s).push16 v = u.write (s.push16 v) := by simp [State.push16]
@[simp] theorem returnTo_write : (u.write s).returnTo = u.write s.returnTo := by
  simp [State.returnTo, State.popDone, State.popValue, State.readWord]
@[simp] theorem refreshIf_write (o : RefreshOrder) (k : Nat) :
    (u.write s).refreshIf o k = u.write (s.refreshIf o k) := by
  simp [State.refreshIf, State.refresh, apply_ite u.write]
@[simp] theorem advance_write (d : Desc) (c : Completion) : (u.write s).advance d c = u.write (s.advance d c) := by
  cases c <;> simp [State.advance]

end

/-! ## Instructions behind the veil -/

/-- What is left of the veil once a report has been made. -/
def after (u : Veil) (t : State) : State :=
  match u with
  | .index x w => t.set (Machine.idxReg x) w
  | .report _ => t

@[simp] theorem reporting_write (u : Veil) (s : State) (o : Option StepReport) :
    (u.write s).reporting o = u.after (s.reporting o) := by cases u <;> rfl

/-- A meaning neither reads nor writes what the veil is on. -/
def Hides (u : Veil) (m : State → Result) : Prop := ∀ s t, m s = .next t → m (u.write s) = .next (u.after t)

theorem hides_sequencer {u : Veil} {d : Desc} {eff : State → Effect}
    (heff : ∀ s, eff (u.write s) = (eff s).map u.write) : u.Hides (sequencer d eff) := by
  intro s t h
  have hw : eff ((u.write s).refreshIf .beforeExecute d.rDelta) =
      (eff (s.refreshIf .beforeExecute d.rDelta)).map u.write := by rw [refreshIf_write, heff]
  obtain ⟨c, v, hv, hs⟩ | ⟨k, v, hv, hs⟩ := sequencer_cases d eff s
  · obtain rfl := Host.Outcome.next.inj (hs.symm.trans h)
    simp only [sequencer, hw, hv, Effect.map_done]
    simp
  · obtain rfl := Host.Outcome.next.inj (hs.symm.trans h)
    simp only [sequencer, hw, hv, Effect.map_fatal]
    cases u <;> rfl

theorem hides_straight {u : Veil} {len t k : Nat} {f : State → State} (hf : ∀ s, f (u.write s) = u.write (f s)) :
    u.Hides (straight len t k f) := hides_sequencer fun s => congrArg (Effect.done .next) (hf s)

theorem hides_jumping {u : Veil} {len t k : Nat} {f : State → State} (hf : ∀ s, f (u.write s) = u.write (f s)) :
    u.Hides (jumping len t k f) := hides_sequencer fun s => congrArg (Effect.done .again) (hf s)

theorem returnFromInterrupt_write (u : Veil) (s : State) :
    (u.write s).returnFromInterrupt = u.write s.returnFromInterrupt := by
  rw [returnFromInterrupt_eq, returnTo_write, write_iff2, returnFromInterrupt_eq]
  cases u <;> rfl

/-- Only the instructions that begin with its own byte see an index register, and none sees the report. -/
theorem exec_hides (u : Veil) (i : Instr) (h : u.Spares i) : u.Hides (exec i) := by
  unfold exec
  cases i with
  | halt | di | ei | im0 | im1 | im2 => exact hides_straight fun s => by cases u <;> rfl
  | retn | reti => exact hides_jumping u.returnFromInterrupt_write
  | jp | jr | jpHl | call | ret | rst => exact hides_jumping fun s => by simp [State.callTo, State.relative]
  | jpIdx x =>
    have hx := h.idxReg (x := x) rfl
    exact hides_jumping fun s => by simp [hx]
  | jpCond | jrCond | callCond | retCond | djnz | daa | ldir | lddr | cpir | cpdr | inir | indr | otir | otdr =>
    exact hides_sequencer fun s => by
      simp [State.callTo, State.relative, State.ldUnit, State.cpUnit, State.inUnit, State.outUnit]
  | addAMemIdx x d | addAHalf x h | adcAMemIdx x d | adcAHalf x h | subAMemIdx x d | subAHalf x h
  | sbcAMemIdx x d | sbcAHalf x h | andAMemIdx x d | andAHalf x h | xorAMemIdx x d | xorAHalf x h
  | orAMemIdx x d | orAHalf x h | cpAMemIdx x d | cpAHalf x h | rlcMemIdx x d | rlcMemIdxCopy x d r
  | rrcMemIdx x d | rrcMemIdxCopy x d r | rlMemIdx x d | rlMemIdxCopy x d r | rrMemIdx x d | rrMemIdxCopy x d r
  | slaMemIdx x d | slaMemIdxCopy x d r | sraMemIdx x d | sraMemIdxCopy x d r | sllMemIdx x d
  | sllMemIdxCopy x d r | srlMemIdx x d | srlMemIdxCopy x d r | bitMemIdx x d b z | resMemIdx x d b
  | resMemIdxCopy x d b r | setMemIdx x d b | setMemIdxCopy x d b r | addIdxPair x p | ldIdxImm x nn
  | ldMemNnIdx x nn | incIdx x | incHalf x h | decHalf x h | ldHalfImm x h n | ldIdxMemNn x nn | decIdx x
  | incMemIdx x d | decMemIdx x d | ldMemIdxImm x d n | ldRegHalf x r h | ldHalfReg x h r | ldHalfHalf x h k
  | ldRegMemIdx x r d | ldMemIdxReg x r d | popIdx x | exMemSpIdx x | pushIdx x | ldSpIdx x =>
    have hx := h.idxReg (x := x) rfl
    exact hides_straight fun s => by
      simp [hx, State.ea, State.xh, State.setXh, State.accumulate, State.putXh, State.putByte, State.writeCopy,
        State.rotMem, State.rotMemCopy, State.putWord, u.visible_idxPairReg hx, State.exchangeTop, State.readWord,
        State.popDone, State.popValue]
  | _ =>
    exact hides_straight fun s => by
      simp [State.accumulate, State.putReg8, State.putByte, State.rotMem, State.putWord, State.digits, State.exchange,
        State.exchangeTop, State.readWord, State.popDone, State.popValue, State.setA_eq, State.ldUnit, State.cpUnit,
        State.inUnit, State.outUnit]

end Veil

end Sys2Proof.Machine
end

section
/-! PROOFS of O17 and O60 from the veil. -/

namespace Sys2Proof.Machine

/-! ## Index registers (10_state.md R104) -/

/-- An instruction that does not begin with its byte leaves an index register, and does the same whatever it holds. -/
theorem exec_index_spared {i : Instr} {s t : State} (x : Idx) (w : Word) (h : exec i s = .next t)
    (hi : (encode i).head? ≠ some (prefixByte x)) :
    t.get (idxReg x) = s.get (idxReg x) ∧ exec i (s.set (idxReg x) w) = .next (t.set (idxReg x) w) := by
  have hides (v : Word) : exec i (s.set (idxReg x) v) = .next (t.set (idxReg x) v) :=
    Veil.exec_hides (.index x v) i (fun y w hy => by cases hy; exact hi) s t h
  refine ⟨?_, hides w⟩
  have hself := hides (s.get (idxReg x))
  rw [State.set_get_self, h] at hself
  rw [Host.Outcome.next.inj hself, State.get_set_self]

/-- Settles O17. -/
theorem indexRegistersNeedTheirPrefix : Obligations.IndexRegistersNeedTheirPrefix := fun _ _ _ w h =>
  ⟨exec_index_spared .ix w h, exec_index_spared .iy w h⟩

/-! ## The report (40_step_and_flags.md R400, R402, 60_exceptions.md R1424) -/

theorem exec_reporting (i : Instr) (s : State) (o : Option StepReport) : exec i { s with report := o } = exec i s := by
  obtain ⟨t, ht, -⟩ := exec_cases i s
  rw [ht]
  exact Veil.exec_hides (.report o) i (fun x w hx => by cases hx) s t ht

theorem step_reporting (s : State) (o : Option StepReport) (hf : s.fatal = none) :
    step { s with report := o } = step s := by
  by_cases hh : s.halted = true
  · rw [step_of_halted hf hh, step_of_halted (s := { s with report := o }) hf hh]
    rfl
  · have hs : s.Running := ⟨hf, by simpa using hh⟩
    have hfetch : State.fetchInstr { s with report := o } = s.fetchInstr := rfl
    rw [step_of_running hs, step_of_running (s := { s with report := o }) hs, hfetch, exec_reporting]

/-- The descriptor shown is the one the sequencer runs with. -/
theorem sequencer_report_desc {d : Desc} {eff : State → Effect} {s t : State} {r : StepReport}
    (h : sequencer d eff s = .next t) (hr : t.report = some r) : r.desc = d := by
  obtain ⟨c, v, -, hs⟩ | ⟨k, v, -, hs⟩ := sequencer_cases d eff s
  · obtain rfl := Host.Outcome.next.inj (hs.symm.trans h)
    exact congrArg StepReport.desc (Option.some.inj hr).symm
  · obtain rfl := Host.Outcome.next.inj (hs.symm.trans h)
    cases hr

theorem refreshIf_get_pc (s : State) (o : RefreshOrder) (k : Nat) : (s.refreshIf o k).get .pc = s.get .pc := by
  obtain ⟨w, hw⟩ := State.refreshIf_eq_set s o k
  rw [hw, State.get_set_ne s (by decide)]

theorem refreshIf_clock (s : State) (o : RefreshOrder) (k : Nat) : (s.refreshIf o k).clock = s.clock := by
  obtain ⟨w, hw⟩ := State.refreshIf_eq_set s o k
  rw [hw, State.set_clock]

theorem advance_get_pc (s : State) (d : Desc) (c : Completion) : (s.advance d c).get .pc =
    if c = .next ∨ c = .nextSlow then s.get .pc + BitVec.ofNat 16 d.length else s.get .pc := by
  cases c <;> simp [State.advance]

theorem advance_clock (s : State) (d : Desc) (c : Completion) : (s.advance d c).clock = s.clock := by
  cases c <;> rfl

/-- What an instruction that completes reports. -/
theorem exec_reports (i : Instr) (s : State) (hs : ¬ strictDaaFails i s) :
    ∃ t d c, exec i s = .next t ∧ t.report = some ⟨d, c⟩ ∧ d.length = i.length ∧
      (i ≠ .ldIA → i ≠ .ldRA → Refreshed s t d.rDelta) ∧
      (c = .next ∧ t.get .pc = s.get .pc + BitVec.ofNat 16 d.length ∧ t.clock = s.clock + d.t ∨
        MayRepeat i ∧
          (c = .again ∧ t.clock = s.clock + d.t ∨ c = .againSlow ∧ ∃ n, d.tSlow = some n ∧ t.clock = s.clock + n)) := by
  obtain ⟨t, ht, ⟨hbad, -⟩ | ⟨-, d, c, hr⟩⟩ := exec_cases i s
  · exact absurd hbad hs
  · refine ⟨t, d, c, ht, hr.report, hr.length, hr.refreshed, ?_⟩
    have hclock := hr.clock
    obtain ⟨rfl, hpc⟩ | ⟨hrep, rfl | ⟨rfl, n, hn⟩⟩ := hr.completes
    · exact .inl ⟨rfl, hpc, hclock⟩
    · exact .inr ⟨hrep, .inl ⟨rfl, hclock⟩⟩
    · exact .inr ⟨hrep, .inr ⟨rfl, n, hn, by rw [hclock, Desc.charge, hn]; rfl⟩⟩

/-- Settles O60. -/
theorem completionStateAndDescriptor : Obligations.CompletionStateAndDescriptor := by
  refine ⟨exec_reports, fun i s s2 t t2 r r2 h h2 hr hr2 => ?desc, fun len fast slow k c f s => ?sequencer,
    fun s o => ⟨fun i => exec_reporting i s o, step_reporting s o⟩, fun s t hf h => ?step⟩
  case desc =>
    obtain ⟨d, eff, hm⟩ := exec_meaning i
    rw [hm.run] at h h2
    rw [sequencer_report_desc h hr, sequencer_report_desc h2 hr2]
  case sequencer =>
    intro d u
    refine ⟨_, rfl, rfl, ?_, ?_⟩
    · rw [State.reporting_get, refreshIf_get_pc, State.tick_get, advance_get_pc]
    · rw [State.reporting_clock, refreshIf_clock, State.tick_clock, advance_clock]
      cases c <;> rfl
  case step =>
    obtain ⟨hne, -⟩ | ⟨-, hh, rfl⟩ | ⟨⟨-, hrun⟩, u, hu, rfl⟩ := step_inv h
    · exact absurd hf hne
    · rw [endStep_report]
      exact ⟨fun _ => rfl, fun hno => by simp [hh] at hno⟩
    · rw [endStep_report]
      exact ⟨fun hyes => by simp [hrun] at hyes, fun _ => ⟨u, hu, rfl⟩⟩

end Sys2Proof.Machine
end
